-- ==== Sys2Proof/Word.lean ====
section
/-! DEFINITION. The byte of the part's links, and the fixed collections in which the part numbers its
things: four rollers, seven ratio entries, eight lines of a group, three groups (0.3, 0.6.6, R122).
Only plain data and its readers and writers stand here; all arithmetic is in `Machine/Arith.lean`. -/

namespace Sys2Proof

/-- One byte of the message link, a drive link, a force converter or the settings memory (R151, R187). -/
abbrev Byte := BitVec 8

/-- The four roller channels, named after the wheel they carry (0.6.6). -/
inductive Roller where
  | fl | fr | rl | rr
deriving DecidableEq, Repr

/-- One thing for each roller channel (0.3). -/
structure Four (α : Type) where
  fl : α
  fr : α
  rl : α
  rr : α
deriving DecidableEq, Repr

namespace Four

variable {α β : Type}

def get (v : Four α) : Roller → α
  | .fl => v.fl
  | .fr => v.fr
  | .rl => v.rl
  | .rr => v.rr

def set (v : Four α) (k : Roller) (x : α) : Four α :=
  match k with
  | .fl => { v with fl := x }
  | .fr => { v with fr := x }
  | .rl => { v with rl := x }
  | .rr => { v with rr := x }

def map (f : α → β) (v : Four α) : Four β := ⟨f v.fl, f v.fr, f v.rl, f v.rr⟩

/-- The four things built from their roller. -/
def tabulate (f : Roller → α) : Four α := ⟨f .fl, f .fr, f .rl, f .rr⟩

def replicate (x : α) : Four α := ⟨x, x, x, x⟩

/-- FL first and RR last, the order of every record of the part (0.6.6). -/
def toList (v : Four α) : List α := [v.fl, v.fr, v.rl, v.rr]

end Four

/-- FL, FR, RL, RR: channels 1 to 4 (0.6.6). -/
def Roller.all : List Roller := [.fl, .fr, .rl, .rr]

/-- The seven entries of the ratio table; there is no entry 0 (3.1). -/
inductive Entry where
  | e1 | e2 | e3 | e4 | e5 | e6 | e7
deriving DecidableEq, Repr

/-- One thing for each ratio entry (3.1). -/
structure Seven (α : Type) where
  e1 : α
  e2 : α
  e3 : α
  e4 : α
  e5 : α
  e6 : α
  e7 : α
deriving DecidableEq, Repr

namespace Seven

variable {α β : Type}

def get (v : Seven α) : Entry → α
  | .e1 => v.e1
  | .e2 => v.e2
  | .e3 => v.e3
  | .e4 => v.e4
  | .e5 => v.e5
  | .e6 => v.e6
  | .e7 => v.e7

def set (v : Seven α) (i : Entry) (x : α) : Seven α :=
  match i with
  | .e1 => { v with e1 := x }
  | .e2 => { v with e2 := x }
  | .e3 => { v with e3 := x }
  | .e4 => { v with e4 := x }
  | .e5 => { v with e5 := x }
  | .e6 => { v with e6 := x }
  | .e7 => { v with e7 := x }

def tabulate (f : Entry → α) : Seven α := ⟨f .e1, f .e2, f .e3, f .e4, f .e5, f .e6, f .e7⟩

def replicate (x : α) : Seven α := ⟨x, x, x, x, x, x, x⟩

def toList (v : Seven α) : List α := [v.e1, v.e2, v.e3, v.e4, v.e5, v.e6, v.e7]

end Seven

/-- The three sampling groups of lines (R122). -/
inductive Group where
  | g1 | g2 | g3
deriving DecidableEq, Repr

/-- One thing for each group (R122). -/
structure Three (α : Type) where
  g1 : α
  g2 : α
  g3 : α
deriving DecidableEq, Repr

namespace Three

variable {α β : Type}

def get (v : Three α) : Group → α
  | .g1 => v.g1
  | .g2 => v.g2
  | .g3 => v.g3

def set (v : Three α) (g : Group) (x : α) : Three α :=
  match g with
  | .g1 => { v with g1 := x }
  | .g2 => { v with g2 := x }
  | .g3 => { v with g3 := x }

def tabulate (f : Group → α) : Three α := ⟨f .g1, f .g2, f .g3⟩

def replicate (x : α) : Three α := ⟨x, x, x⟩

def toList (v : Three α) : List α := [v.g1, v.g2, v.g3]

end Three

/-- The place of a line in its group (R122). -/
inductive Slot where
  | p1 | p2 | p3 | p4 | p5 | p6 | p7 | p8
deriving DecidableEq, Repr

/-- One thing for each of eight places: the lines of a group, or the entries of a speed window. -/
structure Eight (α : Type) where
  p1 : α
  p2 : α
  p3 : α
  p4 : α
  p5 : α
  p6 : α
  p7 : α
  p8 : α
deriving DecidableEq, Repr

namespace Eight

variable {α β : Type}

def get (v : Eight α) : Slot → α
  | .p1 => v.p1
  | .p2 => v.p2
  | .p3 => v.p3
  | .p4 => v.p4
  | .p5 => v.p5
  | .p6 => v.p6
  | .p7 => v.p7
  | .p8 => v.p8

def set (v : Eight α) (p : Slot) (x : α) : Eight α :=
  match p with
  | .p1 => { v with p1 := x }
  | .p2 => { v with p2 := x }
  | .p3 => { v with p3 := x }
  | .p4 => { v with p4 := x }
  | .p5 => { v with p5 := x }
  | .p6 => { v with p6 := x }
  | .p7 => { v with p7 := x }
  | .p8 => { v with p8 := x }

def tabulate (f : Slot → α) : Eight α :=
  ⟨f .p1, f .p2, f .p3, f .p4, f .p5, f .p6, f .p7, f .p8⟩

def replicate (x : α) : Eight α := ⟨x, x, x, x, x, x, x, x⟩

def toList (v : Eight α) : List α := [v.p1, v.p2, v.p3, v.p4, v.p5, v.p6, v.p7, v.p8]

/-- The oldest entry (`p1`) leaves and the new one enters last (R39). -/
def push (v : Eight α) (x : α) : Eight α := ⟨v.p2, v.p3, v.p4, v.p5, v.p6, v.p7, v.p8, x⟩

end Eight

/-- L1 … L8, in line order (R122). -/
def Slot.all : List Slot := [.p1, .p2, .p3, .p4, .p5, .p6, .p7, .p8]

/-- One of the 24 discrete lines: its group and its place in the group (R122). -/
structure LineId where
  group : Group
  slot : Slot
deriving DecidableEq, Repr

/-- L1 … L24 in order. -/
def LineId.all : List LineId :=
  Slot.all.map (⟨.g1, ·⟩) ++ Slot.all.map (⟨.g2, ·⟩) ++ Slot.all.map (⟨.g3, ·⟩)

/-- One thing for each of the 24 lines. -/
abbrev Lines (α : Type) := Three (Eight α)

namespace Lines

variable {α : Type}

def line (v : Lines α) (l : LineId) : α := (v.get l.group).get l.slot

def setLine (v : Lines α) (l : LineId) (x : α) : Lines α :=
  v.set l.group ((v.get l.group).set l.slot x)

def ofLine (f : LineId → α) : Lines α := Three.tabulate fun g => Eight.tabulate fun p => f ⟨g, p⟩

def replicate (x : α) : Lines α := Three.replicate (Eight.replicate x)

/-- L1 first and L24 last. -/
def inOrder (v : Lines α) : List α := v.g1.toList ++ v.g2.toList ++ v.g3.toList

end Lines

end Sys2Proof
end

