-- ==== Sys2Proof/Syntax.lean ====
section
/-! DEFINITION. The commands and events of the part: one constructor of `Instr` for each row of
spec/opcode_table.json, and the data they carry.

A row is a COMMAND of the cell computer or an EVENT that reaches one block of the part. A command row
carries the address and the tag of its frame (8.2) and the fields of its payload with the sizes of
11.3, not yet checked against any range: checking them is part of the command (R157). An event row
carries what reaches the part from outside with it (a byte, the levels of the lines, the answer of the
settings memory); what one block hands another waits inside the part, in `Mail`
(Machine/Records.lean), and the event row takes it from there. -/

namespace Sys2Proof

/-- Mode of the shaft model (R2), with the codes of R187 in this order. -/
inductive Mode where
  | idle | roadLoad | speedProfile | constantSpeed | stopping
deriving DecidableEq, Repr

/-- Stop cause of the shaft model (1.1, R8). -/
inductive StopCause where
  | none | command | estop | permit | underrun | skew | noRollers
deriving DecidableEq, Repr

/-- Coupling state of a roller (R72). -/
inductive CouplingState where
  | detached | pendingAttach | matching | locked | lostLock | releasing | releasedUnack
deriving DecidableEq, Repr

/-- Transition reason of a coupling change (R73) or release cause (4.7). -/
inductive Reason where
  | attach | permits | matched | lockLoss | relocked | settled | notSettled | acknowledged
  | command | attachTimeout | lockTimeout | encoder | overspeed | index | force
  | rollerPermit | isolated | estop | reset
deriving DecidableEq, Repr

/-- The four kinds of roller fault (2.6). -/
inductive FaultKind where
  | encoder | overspeed | index | force
deriving DecidableEq, Repr

/-- Run state of the profile queue (R104). -/
inductive RunState where
  | idle | armed | running | finished | starved | abandoned
deriving DecidableEq, Repr

/-- Start condition of a profile run (R105). -/
inductive StartCond where
  | immediate | atMark
deriving DecidableEq, Repr

/-- What raises time marks (7.3). -/
inductive MarkSource where
  | compare | extMark
deriving DecidableEq, Repr

/-- Direction field of a roller record (R33, R37). -/
inductive Direction where
  | normal | inverted
deriving DecidableEq, Repr

/-- Status of a force converter reading (R40). -/
inductive ReadingStatus where
  | valid | overRange | none
deriving DecidableEq, Repr

/-- Why the shaft model hands an abandonment, or that a command did (R115, R116). -/
inductive AbandonCause where
  | command | mode | stop
deriving DecidableEq, Repr

/-- Stage of a store (R178). -/
inductive StoreStage where
  | mark | write | seal | check
deriving DecidableEq, Repr

/-- The seventeen logical inputs, in the order of their function codes 2 … 18 (6.2). -/
inductive LogIn where
  | estopChain | doorClosed | restraintOk | liftDown
  | brakeReleased (k : Roller) | driveReady (k : Roller) | index (k : Roller)
  | extMark
deriving DecidableEq, Repr

/-- The seven logical outputs, in the order of their function codes 19 … 25 (6.2). -/
inductive LogOut where
  | brakeHold (k : Roller) | liftInhibit | runLamp | markOut
deriving DecidableEq, Repr

/-- What a line is for (6.2). -/
inductive Function where
  | generalIn | generalOut
  | input (i : LogIn)
  | output (o : LogOut)
deriving DecidableEq, Repr

/-- The five road-load fields of SET ROAD LOAD (R12, R13). -/
structure RoadLoad where
  m : Nat
  a : Nat
  b : Nat
  c : Nat
  grade : Int
deriving DecidableEq, Repr

/-- The four limit fields of SET LIMITS (R12, R14). -/
structure Limits where
  vMax : Nat
  vRev : Nat
  aLim : Nat
  aStop : Nat
deriving DecidableEq, Repr

/-- The eleven fields of the FULL form of SET ROLLER as they are carried, direction by its code
(R33, 11.3). -/
structure RollerFields where
  scale : Nat
  direction : Nat
  mass : Nat
  gain : Nat
  zero : Int
  dMax : Nat
  overspeed : Nat
  countsPerRev : Nat
  indexTol : Nat
  kp : Nat
  kv : Nat
deriving DecidableEq, Repr

/-- What follows the roller number and the form byte in SET ROLLER (11.3). -/
inductive RollerBody where
  | gains (kp kv : Nat)
  | full (fields : RollerFields)
deriving DecidableEq, Repr

/-- The thirteen coupling parameters, in the order of R75. -/
structure CouplingParams where
  vWin : Nat
  nMatch : Nat
  xWin : Nat
  nLoss : Nat
  nRelock : Nat
  tLoss : Nat
  tAttach : Nat
  vStill : Nat
  nSettle : Nat
  tRelease : Nat
  ramp : Nat
  skewLimit : Nat
  skewFlywheel : Nat
deriving DecidableEq, Repr

/-- The three link settings (R163); the rate by its code 0 … 3. -/
structure LinkSettings where
  node : Nat
  group : Nat
  rate : Nat
deriving DecidableEq, Repr

/-- Address and tag of a command frame (8.2). -/
structure Head where
  addr : Byte
  tag : Byte
deriving DecidableEq, Repr

/-- A command of the command index (8.7) with the fields of its payload (11.3), unchecked. -/
inductive Cmd where
  | selectMode (mode : Nat)
  | setRoadLoad (r : RoadLoad)
  | setLimits (l : Limits)
  | setSpeed (v : Int)
  | stop
  | readReference
  | setRoller (roller form : Nat) (body : RollerBody)
  | readRoller (roller : Nat)
  | zeroForce (roller : Nat)
  | setRatio (entry : Nat) (goal : Int)
  | selectRatio (roller select : Nat)
  | nudge (roller : Nat) (displacement : Int)
  | attach (roller : Nat)
  | release (roller : Nat)
  | isolate (roller : Nat)
  | acknowledgeRelease (roller : Nat)
  | setCoupling (p : Option CouplingParams)
  | loadPoints (count : Nat) (points : List Byte)
  | startProfile (condition : Nat)
  | abandonProfile
  | clearProfile
  | setProfile (threshold : Nat)
  | readProfile
  | routeLine (line code : Nat)
  | setQualifier (group period : Nat) (counts : Eight Nat)
  | driveLines (set clear toggle : BitVec 24)
  | readLines
  | setTime (time : Nat)
  | setCompare (value source : Nat)
  | readTime
  | fetchNotices
  | setNotices (enable : BitVec 16) (period : Nat) (selection : BitVec 24)
  | storeSettings
  | reloadSettings
  | reset
  | readCounters (option : Nat)
  | readIdentity
  | readStatus
  | setLink (l : LinkSettings)
deriving DecidableEq, Repr

/-- What the settings memory gives when the part reads it: `none` when it does not answer or does not
complete the read (R175, R178); otherwise the cells, if any, at which it returns another byte than the
one it holds. -/
abbrev MemRead := Option (List Host.Cell)

/-- The blocks that take their section of the image, or the defaults, as an event of their own (R176).
The link settings act when the receiver leaves OFF and are no event of this kind. -/
inductive HandoverTo where
  | shaft | channel (k : Roller) | target | coupling | profile | line | notice
deriving DecidableEq, Repr

/-- The senders whose reports the notice queue takes (9.1). -/
inductive Sender where
  | shaft | channel (k : Roller) | coupling | profile | line | timer | store
deriving DecidableEq, Repr

/-- The commands and events of spec/opcode_table.json, one constructor a row, in the table's order. -/
inductive Instr where
  | selectMode (h : Head) (mode : Nat)
  | setRoadLoad (h : Head) (r : RoadLoad)
  | setLimits (h : Head) (l : Limits)
  | setSpeed (h : Head) (v : Int)
  | stop (h : Head)
  | readReference (h : Head)
  | setRoller (h : Head) (roller form : Nat) (body : RollerBody)
  | readRoller (h : Head) (roller : Nat)
  | zeroForce (h : Head) (roller : Nat)
  | setRatio (h : Head) (entry : Nat) (goal : Int)
  | selectRatio (h : Head) (roller select : Nat)
  | nudge (h : Head) (roller : Nat) (displacement : Int)
  | attach (h : Head) (roller : Nat)
  | release (h : Head) (roller : Nat)
  | isolate (h : Head) (roller : Nat)
  | acknowledgeRelease (h : Head) (roller : Nat)
  | setCoupling (h : Head) (p : Option CouplingParams)
  | loadPoints (h : Head) (count : Nat) (points : List Byte)
  | startProfile (h : Head) (condition : Nat)
  | abandonProfile (h : Head)
  | clearProfile (h : Head)
  | setProfile (h : Head) (threshold : Nat)
  | readProfile (h : Head)
  | routeLine (h : Head) (line code : Nat)
  | setQualifier (h : Head) (group period : Nat) (counts : Eight Nat)
  | driveLines (h : Head) (set clear toggle : BitVec 24)
  | readLines (h : Head)
  | setTime (h : Head) (time : Nat)
  | setCompare (h : Head) (value source : Nat)
  | readTime (h : Head)
  | fetchNotices (h : Head)
  | setNotices (h : Head) (enable : BitVec 16) (period : Nat) (selection : BitVec 24)
  /-- `accepts`: the settings memory accepts the invalid mark (R177). -/
  | storeSettings (h : Head) (accepts : Bool)
  | reloadSettings (h : Head)
  | reset (h : Head)
  | readCounters (h : Head) (option : Nat)
  | readIdentity (h : Head)
  | readStatus (h : Head)
  | setLink (h : Head) (l : LinkSettings)
  /-- A byte, the time in µs the line had been idle when it began, whether its stop bit was good, and
  whether the settings memory accepts the mark should this byte complete a STORE SETTINGS (R177). -/
  | receiveByte (b : Byte) (gapUs : Nat) (stopOk accepts : Bool)
  | gapTimeout
  | idleTimeout
  | replyStart
  | replyComplete
  | shaftInterval
  | channelInterval (k : Roller)
  | forceFault (k : Roller)
  | zeroingDone (k : Roller)
  | releaseRampEnd (k : Roller)
  /-- The levels of phase 1 and phase 2 as the channel samples them next (R37). -/
  | encoderTransition (k : Roller) (phase1 phase2 : Bool)
  /-- The bytes of a reading as they arrive, each with the time in µs since the byte before it (R188). -/
  | forceReading (k : Roller) (bytes : List (Nat × Byte))
  | indexEdge (k : Roller)
  | channelCouplingChange (k : Roller)
  | targetInterval
  | targetCouplingChange (k : Roller)
  | couplingInterval
  | attachTimeout (k : Roller)
  | lockTimeout (k : Roller)
  | notSettled (k : Roller)
  | skewFault
  | measurementArrival (k : Roller)
  | matched (k : Roller)
  | lockLoss (k : Roller)
  | relocked (k : Roller)
  | settled (k : Roller)
  | rampEnd (k : Roller)
  | faultHandoff (k : Roller)
  | couplingRunPermitChange
  | rollerPermitChange (k : Roller)
  | shaftRunPermitChange
  | shaftCouplingChange (k : Roller)
  | shaftSkewFault
  | shaftProfileFinish
  | shaftProfileStarved
  | shaftProfileAbandon
  | profileInterval
  | pointReached
  | markOutPulseEnd
  | profileTimeMark
  | profileAbandonment
  /-- The levels present on the eight lines of the group at the sample (R122). -/
  | groupSample (g : Group) (levels : Eight Bool)
  /-- A line, and the levels present on the eight lines of its group at the sample (R122, R123). -/
  | lineQualified (l : LineId) (levels : Eight Bool)
  | lineCouplingChange (k : Roller)
  | runLampRecord
  | markOutReport
  | cellTimerInterval
  | markEdge
  | noticeReport (sender : Sender)
  | referenceRecordTaken
  | shaftSample
  | noticeCouplingChange (k : Roller)
  /-- Whether the memory accepted the writes of the stage; if not, how many bytes of the stage it had
  taken, and whether it accepts the second invalid mark (R178). -/
  | storeWriteDone (accepted : Bool) (landed : Nat) (remark : Bool)
  | storeSealDone (accepted : Bool) (landed : Nat) (remark : Bool)
  /-- What the read-back gave, and whether the memory accepts the second mark if it must be written. -/
  | storeCheckDone (readBack : MemRead) (remark : Bool)
  /-- How many bytes of the stage in progress the memory had taken, and whether it accepts the mark. -/
  | storeTimeout (landed : Nat) (remark : Bool)
  /-- How many bytes of a store's stage in progress the memory had taken (R179). -/
  | powerOnReset (landed : Nat)
  | autoloadEnd (read : MemRead)
  | autoloadTimeout
  | settingsHandover (block : HandoverTo)
deriving DecidableEq, Repr

end Sys2Proof
end

