-- ==== Sys2Proof/Decode.lean ====
section
/-! DEFINITION. The rows of the opcode table as words. -/

namespace Sys2Proof

/-- The command a word spells by the table's bits. No row of the table has bits (each row's `fields` is empty
and no row has `fixed`), so no word spells a command; the frames and payloads that do carry commands are read in
`Machine/Operands.lean` and `Machine/Link.lean` (see assumption 3). -/
def decodeTableWord (_nbits _w : Nat) : Option Instr := none

end Sys2Proof
end

