-- ==== Sys2Proof/Config.lean ====
section
/-! DEFINITION. What each part fixes for itself. -/

namespace Sys2Proof

/-- The serial number of the part, fixed at manufacture and different for each part (R185). A free value:
nothing in the model knows it. -/
opaque Config.serialNumber : BitVec 32

/-- The vendor code (R185). -/
def Config.vendorCode : Nat := 0x0317

/-- The part code (R185). -/
def Config.partCode : Nat := 0x4420

/-- The revision of the part this manual describes (R185). -/
def Config.revision : Nat := 1

end Sys2Proof
end

