-- ==== Sys2Proof/Machine/Arith.lean ====
section
/-! DEFINITION. The arithmetic every chapter uses: rounding (0.6.4), clamping (0.6.5), q16 values
(0.6.2), positions and their differences (0.6.3), saturating counts, the bytes of a field (R187) and
the two CRCs (R153, R175). -/

namespace Sys2Proof.Machine

/-- `n / d` rounded to the nearest integer, ties away from zero, for `d > 0` (0.6.4). -/
def rdiv (n d : Int) : Int :=
  if 0 ≤ n then (2 * n + d) / (2 * d) else -((2 * -n + d) / (2 * d))

/-- `x` clamped into `[lo, hi]` (0.6.5). -/
def clampTo (lo hi x : Int) : Int :=
  if x < lo then lo else if hi < x then hi else x

/-- `x` clamped to `±c` (0.6.5). -/
def clampAbs (c x : Int) : Int := clampTo (-c) c x

/-- `lo ≤ x ≤ hi`: a field lies in its range. -/
def inRange (lo hi x : Int) : Bool := decide (lo ≤ x) && decide (x ≤ hi)

/-- The number that stands for 1 in a q16 value (0.6.2). -/
def q16 : Int := 65536

/-- A q16 speed rounded to whole mm/s. -/
def toMm (v : Int) : Int := rdiv v q16

/-- The magnitude of an integer. -/
def mag (x : Int) : Int := if x < 0 then -x else x

/-- The largest value of a counter of R183. -/
def counterMax : Nat := 4294967295

/-- A count increased by one that stops at `top`. -/
def satInc (top n : Nat) : Nat := if n < top then n + 1 else n

/-- A position: integer µm modulo 2³² and a fraction in 1/65 536 µm (0.6.3). -/
structure Pos where
  um : BitVec 32
  frac : BitVec 16
deriving DecidableEq, Repr

def Pos.zero : Pos := ⟨0#32, 0#16⟩

/-- The position as one number of 1/65 536 µm, 0 … 2⁴⁸ − 1. -/
def Pos.raw (p : Pos) : Int := (p.um.toNat : Int) * 65536 + (p.frac.toNat : Int)

/-- The position advanced by a signed q16 number of µm: the carry of the fraction goes into the integer
part, and the carry out of the integer part is lost (0.6.3, R29, R38, R66). -/
def Pos.advance (p : Pos) (inc : Int) : Pos :=
  let t := p.raw + inc
  ⟨BitVec.ofInt 32 (t / 65536), BitVec.ofInt 16 t⟩

/-- Difference of the integer parts the shorter way round the circle (0.6.3, R67). -/
def Pos.diff (a b : Pos) : Int := (a.um - b.um).toInt

/-! ## Fields as bytes (R187) -/

/-- The low `n` bytes of `v` in two's complement, most significant byte first (R187). -/
def be : Nat → Int → List Byte
  | 0, _ => []
  | n + 1, v => BitVec.ofInt 8 (v / (256 ^ n : Nat)) :: be n v

/-- The unsigned number that bytes carry, most significant byte first (R187). -/
def beNat (bytes : List Byte) : Nat := bytes.foldl (fun acc b => acc * 256 + b.toNat) 0

/-- The unsigned field of `size` bytes at `off` (R187). -/
def fieldU (off size : Nat) (p : List Byte) : Nat := beNat ((p.drop off).take size)

/-- The signed field of `size` bytes at `off`, in two's complement (R187). -/
def fieldS (off size : Nat) (p : List Byte) : Int :=
  let x := fieldU off size p
  if x < 256 ^ size / 2 then (x : Int) else (x : Int) - (256 ^ size : Nat)

/-- One byte. -/
def byte (n : Nat) : Byte := BitVec.ofNat 8 n

/-- A flag: 0 clear or absent, 1 set or present (R187). -/
def flag (b : Bool) : Byte := if b then 1#8 else 0#8

/-- A set of marks, first member bit 0, as one number (R187). -/
def marks : List Bool → Nat
  | [] => 0
  | b :: bs => (if b then 1 else 0) + 2 * marks bs

/-! ## CRCs -/

/-- One bit of the CRC-16: generator x¹⁶ + x¹² + x⁵ + 1, most significant bit first (R153). -/
def crc16Bit (c : BitVec 16) : BitVec 16 :=
  if c.msb then (c <<< 1) ^^^ 0x1021#16 else c <<< 1

/-- One byte fed into the CRC-16 (R153). -/
def crc16Byte (c : BitVec 16) (b : Byte) : BitVec 16 :=
  crc16Bit (crc16Bit (crc16Bit (crc16Bit (crc16Bit (crc16Bit (crc16Bit (crc16Bit
    (c ^^^ (b.setWidth 16 <<< 8)))))))))

/-- Initial value of the CRC-16 (R153). -/
def crc16Init : BitVec 16 := 0xFFFF#16

/-- CRC-16 over bytes in the order sent; no final inversion (R153). -/
def crc16 (bytes : List Byte) : BitVec 16 := bytes.foldl crc16Byte crc16Init

/-- The two bytes of a CRC-16, high byte first (R153). -/
def crc16Bytes (c : BitVec 16) : List Byte := [(c >>> 8).setWidth 8, c.setWidth 8]

/-- One bit of the CRC-32: the generator of R175 reflected, least significant bit first. -/
def crc32Bit (c : BitVec 32) : BitVec 32 :=
  if c.getLsbD 0 then (c >>> 1) ^^^ 0xEDB88320#32 else c >>> 1

/-- One byte fed into the CRC-32, least significant bit first (R175). -/
def crc32Byte (c : BitVec 32) (b : Byte) : BitVec 32 :=
  crc32Bit (crc32Bit (crc32Bit (crc32Bit (crc32Bit (crc32Bit (crc32Bit (crc32Bit
    (c ^^^ b.setWidth 32))))))))

/-- CRC-32 over bytes in the order stored: initial value 0xFFFFFFFF, result inverted (R175). -/
def crc32 (bytes : List Byte) : BitVec 32 := ~~~ (bytes.foldl crc32Byte 0xFFFFFFFF#32)

end Sys2Proof.Machine
end

