-- ==== Sys2Proof/Machine/Records.lean ====
section
/-! DEFINITION. What each block holds (0.3), the records the blocks publish, the notices, the stored
settings, and the events on their way from one block to another. Plain data only. -/

namespace Sys2Proof.Machine

/-! ## Published records -/

/-- The reference record of the shaft model (R30). `speed` and `dv` are q16; `traceSpeed` is in mm/s and
absent unless the run is RUNNING. -/
structure RefRecord where
  seq : BitVec 16
  mode : Mode
  speed : Int
  dv : Int
  distance : BitVec 32
  fMeas : Int
  roadLoad : Int
  fGrade : Int
  grade : Int
  traceSpeed : Option Int
  accLimited : Bool
  speedLimited : Bool
deriving DecidableEq, Repr

/-- The force record of a channel (R43). -/
structure ForceRecord where
  force : Int
  age : Nat
  limited : Bool
  contributing : Bool
  refSeq : BitVec 16
deriving DecidableEq, Repr

/-- The measurement record of a channel (R52). -/
structure MeasRecord where
  pos : Pos
  vMeas : Int
  ev : Int
  ex : Int
  demand : Int
  enable : Bool
  saturated : Bool
deriving DecidableEq, Repr

/-- The target record of a roller (R63); `advanced` is the position mode ADVANCED, else TRACKING. -/
structure TargetRecord where
  refSeq : BitVec 16
  select : Nat
  ratio : Int
  speed : Int
  advanced : Bool
  pos : Pos
  nudge : Int
deriving DecidableEq, Repr

/-- The run record of the profile queue (5.3); `target` is q16. -/
structure RunRecord where
  run : RunState
  target : Int
  grade : Int
  elapsed : Nat
  duration : Nat
  consumed : Nat
deriving DecidableEq, Repr

/-- The demand frame a channel puts on its drive link (R52, 11.7). -/
structure DemandFrame where
  seq : BitVec 8
  enable : Bool
  demand : Int
deriving DecidableEq, Repr

/-- The release record of a roller (R93). -/
structure ReleaseRecord where
  first : Reason
  subsequent : Option Reason
  notSettled : Bool
  time : BitVec 32
deriving DecidableEq, Repr

/-- The last-fault record of a channel (R57). -/
structure FaultRecord where
  kind : FaultKind
  time : BitVec 32
  view : CouplingState
  detail : Int
deriving DecidableEq, Repr

/-! ## Live settings, by section of the image (R175) -/

/-- The settings of the shaft model (R12). -/
structure ShaftSettings where
  road : RoadLoad
  limits : Limits
  setpoint : Int
deriving DecidableEq, Repr

/-- The roller record (R33). -/
structure RollerRec where
  scale : Nat
  direction : Direction
  mass : Nat
  gain : Nat
  zero : Int
  dMax : Nat
  overspeed : Nat
  countsPerRev : Nat
  indexTol : Nat
  kp : Nat
  kv : Nat
deriving DecidableEq, Repr

/-- Ratio goals in ppm and ratio selects (R60, R61). -/
structure RatioSettings where
  goals : Seven Int
  selects : Four Nat
deriving DecidableEq, Repr

/-- Function codes, qualification counts and sample period codes (R122, R125). -/
structure LineSettings where
  functions : Lines Function
  counts : Lines Nat
  periods : Three Nat
deriving DecidableEq, Repr

/-- Enable set, sample period and LINE CHANGE selection (R169). Bit `i` of `enable` is the class of notice
kind `i + 1`; bit `i` of `selection` is the logical input of function code `i + 2` (11.3, note 1). -/
structure NoticeSettings where
  enable : BitVec 9
  period : Nat
  selection : BitVec 17
deriving DecidableEq, Repr

/-- Every live setting of R175: a snapshot, or a valid image. -/
structure Settings where
  link : LinkSettings
  shaft : ShaftSettings
  rollers : Four RollerRec
  coupling : CouplingParams
  ratio : RatioSettings
  line : LineSettings
  threshold : Nat
  notice : NoticeSettings
deriving DecidableEq, Repr

/-! ## Notices -/

/-- The events of a PROFILE notice with their further content (R120); speeds in mm/s. -/
inductive ProfileEvent where
  | space (free : Nat)
  | started (condition : StartCond) (speed : Int) (held : Nat)
  | lateStart (condition : StartCond) (speed : Int) (held : Nat)
  | cue (number consumed : Nat)
  | finished (speed : Int) (consumed : Nat)
  | starved (speed : Int) (consumed : Nat)
  | abandoned (cause : AbandonCause) (speed : Int) (consumed held : Nat)
deriving DecidableEq, Repr

/-- What a shaft sample holds of one roller (R167, 11.5). -/
structure RollerSample where
  state : CouplingState
  vMeas : Int
  ex : Int
  demand : Int
  force : Int
  refSeq : BitVec 16
deriving DecidableEq, Repr

/-- Content of a notice, by class (9.1, 11.6). -/
inductive NoticeBody where
  | couplingChange (roller : Roller) (previous new : CouplingState) (reason : Reason)
  | modeChange (previous new : Mode) (cause : StopCause) (speed : Int) (refSeq : BitVec 16)
  | profile (event : ProfileEvent) (run : RunState)
  | skew (skew : Int) (largest smallest : Roller) (exLargest exSmallest : Int)
  | lineChange (input : LogIn) (value : Bool) (line : Option LineId) (routing : Bool)
  | timeMark (source : MarkSource) (count : BitVec 16)
  | zeroDone (roller : Roller) (ok : Bool) (zero : Int) (readings : Nat) (failing : ReadingStatus)
  | storeDone (ok : Bool) (stage : StoreStage)
  | reloadDone (image : Bool)
  | shaftSample (record : RefRecord) (rollers : Four RollerSample)
deriving DecidableEq, Repr

/-- A report on its way to the notice queue: the sender's stamp, absent where the queue stamps the header
itself (R166), and the content. -/
structure Report where
  stamp : Option (BitVec 32)
  body : NoticeBody
deriving DecidableEq, Repr

/-- A notice held in the queue: header and content (R166). -/
structure Notice where
  seq : BitVec 8
  time : BitVec 32
  body : NoticeBody
deriving DecidableEq, Repr

/-! ## Events between blocks -/

/-- A coupling change event (R73); the roller is the place it waits at. -/
structure Change where
  previous : CouplingState
  new : CouplingState
  reason : Reason
  time : BitVec 32
deriving DecidableEq, Repr

/-- A run permit event (R128, R129): the permit, the four logical inputs and the emergency stop mark. -/
structure RunPermitEvent where
  present : Bool
  estopChain : Bool
  doorClosed : Bool
  restraintOk : Bool
  liftDown : Bool
  estopMark : Bool
deriving DecidableEq, Repr

/-- A roller permit event (R130); the roller is the place it waits at. -/
structure RollerPermitEvent where
  present : Bool
  brakeReleased : Bool
  driveReady : Bool
deriving DecidableEq, Repr

/-- What a channel hands the coupling controller at an expiry, in order: a ramp end arrives before the
measurement of the same expiry (R74). -/
inductive ChannelMessage where
  | rampEnd
  | measurement (record : MeasRecord)
deriving DecidableEq, Repr

/-- What the profile queue hands the shaft model (R112, R113, R115). -/
inductive ProfileHandoff where
  | finish (speed : Int)
  | starvation
  | abandonment
deriving DecidableEq, Repr

/-- Reports handed to the notice queue and not yet taken, by sender; each sender's in order (R168). -/
structure Reports where
  shaft : List Report
  channel : Four (List Report)
  coupling : List Report
  profile : List Report
  line : List Report
  timer : List Report
  store : List Report
deriving DecidableEq, Repr

/-- Sections handed to blocks by the autoload and not yet taken (R176). -/
structure Handover where
  shaft : Option ShaftSettings
  channel : Four (Option RollerRec)
  target : Option RatioSettings
  coupling : Option CouplingParams
  profile : Option Nat
  line : Option LineSettings
  notice : Option NoticeSettings
deriving DecidableEq, Repr

/-- Events a block has sent and their receiver has not yet taken. A receiver takes the events of one place
here in the order sent; between places no order is defined (R73, R124, R148). -/
structure Mail where
  /-- coupling change events to the channel, target formation, the shaft model, the line unit and the
  notice queue (R73) -/
  changeToChannel : Four (List Change)
  changeToTarget : Four (List Change)
  changeToShaft : Four (List Change)
  changeToLine : Four (List Change)
  changeToNotice : Four (List Change)
  /-- run permit events to the shaft model and to the coupling controller (R128) -/
  permitToShaft : List RunPermitEvent
  permitToCoupling : List RunPermitEvent
  /-- roller permit events to the coupling controller (R130) -/
  rollerPermit : Four (List RollerPermitEvent)
  /-- index edges to the channels and mark edges to the cell timer: how many wait (R127) -/
  indexEdge : Four Nat
  markEdge : Nat
  /-- ramp ends and measurement records, and faults, from the channels (R74) -/
  fromChannel : Four (List ChannelMessage)
  fault : Four (List FaultKind)
  /-- shaft skew faults raised to the shaft model: how many wait (R97) -/
  skewFault : Nat
  /-- run endings to the shaft model, abandonments to the profile queue (R112 to R116) -/
  toShaft : List ProfileHandoff
  abandonment : List AbandonCause
  /-- time marks to the profile queue, each the cell time of the mark (R148) -/
  timeMark : List (BitVec 32)
  /-- modes of published reference records to the line unit (R133) -/
  modeToLine : List Mode
  /-- MARK_OUT changes to the line unit (R134) -/
  markOut : List Bool
  /-- reference records to the notice queue (R167) -/
  recordToNotice : List RefRecord
  reports : Reports
  handover : Handover
deriving DecidableEq, Repr

/-! ## The blocks -/

/-- The shaft model (1.1). Speeds and speed changes are q16. -/
structure Shaft where
  mode : Mode
  speed : Int
  distance : Pos
  lastDv : Int
  stopCause : StopCause
  settings : ShaftSettings
  dvLim : Int
  dvStop : Int
  permitView : Bool
  contributing : Nat
  record : RefRecord
deriving DecidableEq, Repr

/-- A force converter reading (R40). -/
structure Reading where
  raw : Int
  status : ReadingStatus
deriving DecidableEq, Repr

/-- A release ramp: demand at its start, length and intervals remaining (R50). -/
structure Ramp where
  entry : Int
  length : Nat
  remaining : Nat
deriving DecidableEq, Repr

/-- A zeroing in flight: sum of raw values and readings taken (R44). -/
structure Zeroing where
  sum : Int
  count : Nat
deriving DecidableEq, Repr

/-- A roller channel (chapter 2). -/
structure Channel where
  settings : RollerRec
  /-- direction in effect, taken from the record at each expiry (R35) -/
  direction : Direction
  /-- levels of the two phases at the encoder input (R37) -/
  phase1 : Bool
  phase2 : Bool
  count : BitVec 32
  prevCount : BitVec 32
  /-- illegal transitions of the current interval, saturating at 255 (R37) -/
  illegal : Nat
  pos : Pos
  window : Eight Int
  vMeas : Int
  /-- bytes of an unfinished reading (R188) -/
  rxBytes : List Byte
  /-- the reading arrived since the last expiry (R40) -/
  held : Option Reading
  /-- the reading used at the last expiry (R40) -/
  used : Reading
  force : Int
  age : Nat
  limited : Bool
  forceRecord : ForceRecord
  zeroing : Option Zeroing
  view : CouplingState
  demand : Int
  enable : Bool
  saturated : Bool
  ramp : Option Ramp
  faultHold : Bool
  /-- conditions present at the last expiry (R57) -/
  encoderPresent : Bool
  overspeedPresent : Bool
  forcePresent : Bool
  lastFault : Option FaultRecord
  indexArmed : Bool
  indexRef : BitVec 32
  /-- sequence number of the next demand frame, and the frame last sent (R52) -/
  nextFrame : BitVec 8
  frame : Option DemandFrame
  meas : MeasRecord
deriving DecidableEq, Repr

/-- What target formation holds of one roller (chapter 3). -/
structure TargetRoller where
  view : CouplingState
  speed : Int
  pos : Pos
  nudge : Int
  record : TargetRecord
deriving DecidableEq, Repr

/-- Target formation (chapter 3). -/
structure Target where
  settings : RatioSettings
  current : Seven Int
  roller : Four TargetRoller
deriving DecidableEq, Repr

/-- The coupling state machine of one roller (chapter 4). -/
structure CouplingRoller where
  state : CouplingState
  count : Nat
  timer : Nat
  rampEnded : Bool
  release : ReleaseRecord
  permitView : Bool
  meas : MeasRecord
deriving DecidableEq, Repr

/-- The coupling controller (chapter 4). -/
structure Coupling where
  params : CouplingParams
  roller : Four CouplingRoller
  runPermitView : Bool
  skewCount : Nat
  skewRaised : Bool
deriving DecidableEq, Repr

/-- A trace point as stored (R99); `cue` is absent when MARK is clear. -/
structure Point where
  duration : Nat
  speed : Int
  grade : Int
  isEnd : Bool
  cue : Option Nat
deriving DecidableEq, Repr

/-- The profile queue (chapter 5). -/
structure Profile where
  points : List Point
  closed : Bool
  run : RunState
  condition : StartCond
  markKept : Bool
  threshold : Nat
  vs : Int
  elapsed : Nat
  target : Int
  grade : Int
  consumed : Nat
  pulse : Nat
  record : RunRecord
deriving DecidableEq, Repr

/-- Qualification of one line (R123); `value` absent is UNQUALIFIED. -/
structure Qualifier where
  value : Option Bool
  candidate : Option Bool
  run : Nat
deriving DecidableEq, Repr

/-- The values of the seventeen logical inputs (R126). -/
structure LogInputs where
  estopChain : Bool
  doorClosed : Bool
  restraintOk : Bool
  liftDown : Bool
  brakeReleased : Four Bool
  driveReady : Four Bool
  index : Four Bool
  extMark : Bool
deriving DecidableEq, Repr

/-- The line unit (chapter 6). `timers` holds the µs each group's sample timer was last started with. -/
structure LineUnit where
  settings : LineSettings
  qualifiers : Lines Qualifier
  latches : Lines Bool
  timers : Three Nat
  inputs : LogInputs
  runPermit : Bool
  rollerPermit : Four Bool
  brakeHold : Four Bool
  liftInhibit : Bool
  runLamp : Bool
  markOut : Bool
  view : Four CouplingState
  modeView : Mode
deriving DecidableEq, Repr

/-- The cell timer (chapter 7). -/
structure Timer where
  time : BitVec 32
  compare : BitVec 32
  source : MarkSource
  markCount : BitVec 16
  lastMark : Option (BitVec 32)
deriving DecidableEq, Repr

/-- Receiver states (R152). -/
inductive RxState where
  | off | hunt | address | length | kind | tag | payload | crcHigh | crcLow | skip | replying
deriving DecidableEq, Repr

/-- The frame being received (8.2): what has been taken of it and the running CRC. -/
structure RxFrame where
  addr : Byte
  length : Byte
  kind : Byte
  tag : Byte
  payload : List Byte
  crc : BitVec 16
  crcHigh : Byte
deriving DecidableEq, Repr

/-- A reply frame (R158), less its start byte, length and CRC. -/
structure Reply where
  addr : Byte
  kind : Byte
  tag : Byte
  payload : List Byte
deriving DecidableEq, Repr

/-- What a command does to the link or the part after its reply (R164). -/
inductive Deferred where
  | setLink (l : LinkSettings)
  | reset
  | reload
deriving DecidableEq, Repr

/-- The message link (chapter 8); `driver` is the line driver's enable. -/
structure Link where
  settings : LinkSettings
  rx : RxState
  /-- SKIP was entered from OFF, and no byte has come since: idle time reported with the next byte may have begun
  before SKIP, and counts for nothing (R165) -/
  fromOff : Bool
  frame : RxFrame
  reply : Option Reply
  driver : Bool
  deferred : Option Deferred
deriving DecidableEq, Repr

/-- The notice queue (chapter 9). -/
structure NoticeQueue where
  settings : NoticeSettings
  events : List Notice
  samples : List Notice
  sampleCount : Nat
  nextSeq : BitVec 8
  overflow : Bool
  view : Four CouplingState
deriving DecidableEq, Repr

/-- The seven counters of a roller (R183). -/
structure RollerCounters where
  lockLosses : Nat
  encoderFaults : Nat
  overspeedFaults : Nat
  indexFaults : Nat
  forceFaults : Nat
  saturatedIntervals : Nat
  illegalTransitions : Nat
deriving DecidableEq, Repr

/-- The counters of R183. -/
structure Counters where
  framesAccepted : Nat
  framesDiscarded : Nat
  commandsRefused : Nat
  noticesDiscarded : Nat
  profileUnderruns : Nat
  roller : Four RollerCounters
deriving DecidableEq, Repr

/-- Activity of the settings store (chapter 10). -/
inductive Activity where
  | idle | loading | storing
deriving DecidableEq, Repr

/-- Outcome of the latest store (R178). -/
inductive StoreOutcome where
  | none | ok
  | failed (stage : StoreStage)
deriving DecidableEq, Repr

/-- The settings store (chapter 10), with the external settings memory it writes and reads.
`reloading` says that the autoload in progress follows a RELOAD SETTINGS. -/
structure Store where
  activity : Activity
  reloading : Bool
  snapshot : Option Settings
  stage : StoreStage
  lastOutcome : StoreOutcome
  /-- last autoload outcome: IMAGE, else DEFAULTS -/
  lastImage : Bool
  counters : Counters
  /-- the external memory of 8 KiB: its listed cells (Machine/Memory.lean) -/
  memory : List Host.Cell
deriving DecidableEq, Repr

end Sys2Proof.Machine
end

