-- ==== Sys2Proof/Machine/Forces.lean ====
section
/-! DEFINITION. Grade force, road load and net force of one interval (R16, R20 to R23). -/

namespace Sys2Proof.Machine

/-- A speed-change limit formed from an acceleration limit (R16). -/
def dvOf (accel : Nat) : Int := rdiv ((accel : Int) * 65536) 100

/-- The grade force in dN (R20). -/
def gradeForce (m : Nat) (grade : Int) : Int := rdiv ((m : Int) * grade * 980665) 100000000

/-- The road-load magnitude in dN at the q16 speed `v` (R21); the two terms are rounded separately. -/
def roadLoadMag (r : RoadLoad) (v : Int) : Int :=
  let w := rdiv (mag v) q16
  (r.a : Int) + rdiv ((r.b : Int) * w) 100000 + rdiv ((r.c : Int) * (w * w)) 10000000000

/-- The signed road-load contribution (R22), by the sign of the q16 speed; at rest by the standstill
rule. -/
def roadLoadSigned (r : RoadLoad) (v fMeas fGrade : Int) : Int :=
  if 0 < v then -roadLoadMag r v
  else if v < 0 then roadLoadMag r v
  else
    let d := fMeas - fGrade
    if mag d ≤ r.a then -d else if (r.a : Int) < d then -(r.a : Int) else r.a

/-- The net force in dN: in every case F_meas + contribution − F_grade (R22). -/
def netForce (r : RoadLoad) (v fMeas fGrade : Int) : Int :=
  fMeas + roadLoadSigned r v fMeas fGrade - fGrade

end Sys2Proof.Machine
end

