-- ==== Sys2Proof/Machine/Memory.lean ====
section
/-! DEFINITION. The external settings memory of 8 KiB (0.2, R175) as its listed cells in one canonical
form: addresses strictly rising, and no cell equal to what an unlisted address reads as. -/

namespace Sys2Proof.Machine

/-- Bytes in the external memory (0.2). The image lies in the first 288 of them (11.8), so no address the
part uses is outside it. -/
def Memory.size : Nat := 8192

/-- What an address that nothing has written reads as. DESIGN CHOICE (unsafe): the manual gives no
content to a memory that was never stored to; see assumption 4. -/
def Memory.blank : Byte := 0#8

/-- The byte held at an address. -/
def Memory.read : List Host.Cell → Nat → Byte
  | [], _ => Memory.blank
  | (x, b) :: m, a => if x = a then b else Memory.read m a

/-- The memory with one byte written; writing the blank byte takes the cell out of the list. -/
def Memory.write : List Host.Cell → Nat → Byte → List Host.Cell
  | [], a, b => if b = Memory.blank then [] else [(a, b)]
  | (x, c) :: m, a, b =>
    if a < x then (if b = Memory.blank then (x, c) :: m else (a, b) :: (x, c) :: m)
    else if a = x then (if b = Memory.blank then m else (a, b) :: m)
    else (x, c) :: Memory.write m a b

/-- Bytes written one after another, each at its own address. -/
def Memory.writeCells (m : List Host.Cell) (cells : List Host.Cell) : List Host.Cell :=
  cells.foldl (fun m c => Memory.write m c.1 c.2) m

/-- `n` bytes read from consecutive addresses from `a`. -/
def Memory.readList (m : List Host.Cell) : Nat → Nat → List Byte
  | _, 0 => []
  | a, n + 1 => Memory.read m a :: Memory.readList m (a + 1) n

/-- Every listed address is above `a`, rising, and no listed cell is blank. -/
def Memory.wfAbove : Option Nat → List Host.Cell → Bool
  | _, [] => true
  | lo, (x, b) :: m =>
    (match lo with
      | none => true
      | some a => decide (a < x)) && decide (b ≠ Memory.blank) && Memory.wfAbove (some x) m

/-- The canonical form. -/
def Memory.wf (m : List Host.Cell) : Bool := Memory.wfAbove none m

/-- The memory as a read with these departures returns it: at an address that `departs` lists, the byte
listed there; elsewhere the byte held. -/
def Memory.readBack (m departs : List Host.Cell) (a : Nat) : Byte :=
  match departs with
  | [] => Memory.read m a
  | (x, b) :: ds => if x = a then b else Memory.readBack m ds a

/-- `n` bytes so read from address `a`. -/
def Memory.readBackList (m departs : List Host.Cell) : Nat → Nat → List Byte
  | _, 0 => []
  | a, n + 1 => Memory.readBack m departs a :: Memory.readBackList m departs (a + 1) n

end Sys2Proof.Machine
end

