-- ==== Sys2Proof/Machine/ResetValues.lean ====
section
/-! DEFINITION. The defaults of the live settings and the reset values of every block (R32, R58, R71,
R98, R121, R141, R150, R165, R174, R183). -/

namespace Sys2Proof.Machine

/-! ## Defaults -/

/-- R12. -/
def ShaftSettings.default : ShaftSettings :=
  { road := { m := 1500, a := 0, b := 0, c := 0, grade := 0 }
    limits := { vMax := 50000, vRev := 0, aLim := 500, aStop := 300 }
    setpoint := 0 }

/-- R33. -/
def RollerRec.default : RollerRec :=
  { scale := 0, direction := .normal, mass := 500, gain := 65536, zero := 0, dMax := 20000
    overspeed := 55000, countsPerRev := 0, indexTol := 4, kp := 0, kv := 0 }

/-- R75. -/
def couplingDefault : CouplingParams :=
  { vWin := 50, nMatch := 200, xWin := 20000, nLoss := 16, nRelock := 50, tLoss := 2000
    tAttach := 2000, vStill := 20, nSettle := 200, tRelease := 10000, ramp := 250
    skewLimit := 50000, skewFlywheel := 16 }

/-- R71. -/
def RatioSettings.default : RatioSettings := ⟨Seven.replicate 0, Four.replicate 0⟩

/-- R141. -/
def LineSettings.default : LineSettings :=
  ⟨Lines.replicate .generalIn, Lines.replicate 1, Three.replicate 0⟩

/-- R121. -/
def thresholdDefault : Nat := 16

/-- All nine classes enabled, no samples, every logical input but INDEX_1 … 4 selected (chapter 9). -/
def NoticeSettings.default : NoticeSettings := ⟨0x1FF#9, 0, 0x10FFF#17⟩

/-- R165. -/
def linkDefault : LinkSettings := ⟨1, 0, 0⟩

def Settings.default : Settings :=
  { link := linkDefault, shaft := .default, rollers := Four.replicate .default, coupling := couplingDefault
    ratio := .default, line := .default, threshold := thresholdDefault, notice := .default }

/-! ## Shaft model (R32) -/

/-- The reference record a reset publishes: sequence 0, built from the reset values, its forces formed
by R19 to R22 with no contributing force. DEDUCED; see assumption 8. -/
def RefRecord.afterReset (set : ShaftSettings) : RefRecord :=
  let fGrade := gradeForce set.road.m set.road.grade
  { seq := 0#16, mode := .idle, speed := 0, dv := 0, distance := 0#32, fMeas := 0
    roadLoad := roadLoadSigned set.road 0 0 fGrade
    fGrade := fGrade, grade := set.road.grade, traceSpeed := none
    accLimited := false, speedLimited := false }

def Shaft.afterReset (set : ShaftSettings) (dvLim dvStop : Int) : Shaft :=
  { mode := .idle, speed := 0, distance := .zero, lastDv := 0, stopCause := .none
    settings := set, dvLim := dvLim, dvStop := dvStop
    permitView := false, contributing := 0, record := .afterReset set }

/-! ## Roller channels (R58) -/

def MeasRecord.zero : MeasRecord :=
  { pos := .zero, vMeas := 0, ev := 0, ex := 0, demand := 0, enable := false, saturated := false }

def Channel.afterReset (set : RollerRec) (phase1 phase2 : Bool) : Channel :=
  { settings := set, direction := set.direction, phase1 := phase1, phase2 := phase2
    count := 0#32, prevCount := 0#32, illegal := 0, pos := .zero
    window := Eight.replicate 0, vMeas := 0
    rxBytes := [], held := none, used := ⟨0, .none⟩
    force := 0, age := 0, limited := false
    forceRecord := { force := 0, age := 0, limited := false, contributing := false, refSeq := 0#16 }
    zeroing := none, view := .releasedUnack
    demand := 0, enable := false, saturated := false, ramp := none, faultHold := false
    encoderPresent := false, overspeedPresent := false, forcePresent := false
    lastFault := none, indexArmed := false, indexRef := 0#32
    nextFrame := 0#8, frame := none, meas := .zero }

/-! ## Target formation (R71) -/

/-- The ratio in use for a select: the current value of the entry, or 0 for select 0 (R63). -/
def ratioInUse (current : Seven Int) : Nat → Int
  | 1 => current.e1
  | 2 => current.e2
  | 3 => current.e3
  | 4 => current.e4
  | 5 => current.e5
  | 6 => current.e6
  | 7 => current.e7
  | _ => 0

def TargetRoller.afterReset (current : Seven Int) (select : Nat) : TargetRoller :=
  { view := .releasedUnack, speed := 0, pos := .zero, nudge := 0
    record :=
      { refSeq := 0#16, select := select, ratio := ratioInUse current select, speed := 0
        advanced := false, pos := .zero, nudge := 0 } }

def Target.afterReset (set : RatioSettings) (current : Seven Int) : Target :=
  { settings := set, current := current, roller := set.selects.map (TargetRoller.afterReset current) }

/-! ## Coupling controller (R98) -/

/-- A reset begins a release of every roller with cause RESET at cell time 0 (R93, R98). -/
def CouplingRoller.afterReset : CouplingRoller :=
  { state := .releasedUnack, count := 0, timer := 0, rampEnded := false
    release := { first := .reset, subsequent := none, notSettled := false, time := 0#32 }
    permitView := false, meas := .zero }

def Coupling.afterReset (p : CouplingParams) : Coupling :=
  { params := p, roller := Four.replicate .afterReset, runPermitView := false
    skewCount := 0, skewRaised := false }

/-! ## Profile queue (R121) -/

def Profile.afterReset (threshold : Nat) : Profile :=
  { points := [], closed := false, run := .idle, condition := .immediate, markKept := false
    threshold := threshold, vs := 0, elapsed := 0, target := 0, grade := 0, consumed := 0, pulse := 0
    record := { run := .idle, target := 0, grade := 0, elapsed := 0, duration := 0, consumed := 0 } }

/-! ## Line unit (R141) -/

/-- The sample period in µs of a period code (R122). -/
def periodUs (code : Nat) : Nat := if code = 0 then 10 else 20 * code

def LogInputs.default : LogInputs :=
  { estopChain := false, doorClosed := false, restraintOk := false, liftDown := false
    brakeReleased := Four.replicate false, driveReady := Four.replicate false
    index := Four.replicate false, extMark := false }

def LineUnit.afterReset (set : LineSettings) : LineUnit :=
  { settings := set, qualifiers := Lines.replicate ⟨none, none, 0⟩, latches := Lines.replicate false
    timers := ⟨periodUs set.periods.g1, periodUs set.periods.g2, periodUs set.periods.g3⟩
    inputs := .default, runPermit := false, rollerPermit := Four.replicate false
    brakeHold := Four.replicate true, liftInhibit := false, runLamp := false, markOut := false
    view := Four.replicate .releasedUnack, modeView := .idle }

/-! ## Cell timer (R150) -/

def Timer.afterReset : Timer :=
  { time := 0#32, compare := 0#32, source := .compare, markCount := 0#16, lastMark := none }

/-! ## Message link (R165) -/

/-- No frame being received; the CRC at its initial value (R152). -/
def RxFrame.empty : RxFrame :=
  { addr := 0#8, length := 0#8, kind := 0#8, tag := 0#8, payload := [], crc := crc16Init, crcHigh := 0#8 }

def Link.afterReset (set : LinkSettings) (rx : RxState) : Link :=
  { settings := set, rx := rx, fromOff := false, frame := .empty, reply := none, driver := false, deferred := none }

/-! ## Notice queue (R174) -/

def NoticeQueue.afterReset (set : NoticeSettings) : NoticeQueue :=
  { settings := set, events := [], samples := [], sampleCount := 0, nextSeq := 0#8, overflow := false
    view := Four.replicate .releasedUnack }

/-! ## Settings store (R182, R183) -/

def RollerCounters.zero : RollerCounters := ⟨0, 0, 0, 0, 0, 0, 0⟩

def Counters.zero : Counters := ⟨0, 0, 0, 0, 0, Four.replicate .zero⟩

/-- The store right after a power-on reset: an autoload has begun (R182). The last autoload outcome is
DEFAULTS until the autoload sets it: DESIGN CHOICE, see assumption 2. -/
def Store.afterPowerOn (memory : List Host.Cell) : Store :=
  { activity := .loading, reloading := false, snapshot := none, stage := .mark
    lastOutcome := .none, lastImage := false, counters := .zero, memory := memory }

/-! ## Events between blocks -/

def Reports.empty : Reports := ⟨[], Four.replicate [], [], [], [], [], []⟩

def Handover.none : Handover :=
  { shaft := .none, channel := Four.replicate .none, target := .none, coupling := .none
    profile := .none, line := .none, notice := .none }

/-- No event is on its way: what every reset leaves (R98, R121, R142, R174). DEDUCED; assumption 7. -/
def Mail.empty : Mail :=
  { changeToChannel := Four.replicate [], changeToTarget := Four.replicate []
    changeToShaft := Four.replicate [], changeToLine := Four.replicate []
    changeToNotice := Four.replicate [], permitToShaft := [], permitToCoupling := []
    rollerPermit := Four.replicate [], indexEdge := Four.replicate 0, markEdge := 0
    fromChannel := Four.replicate [], fault := Four.replicate [], skewFault := 0, toShaft := []
    abandonment := [], timeMark := [], modeToLine := [], markOut := [], recordToNotice := []
    reports := .empty, handover := .none }

end Sys2Proof.Machine
end

