-- ==== Sys2Proof/Machine/State.lean ====
section
/-! DEFINITION. The state of the part: its ten blocks, the events on their way between them, and the
queue of commands and events that wait. Plain data. -/

namespace Sys2Proof.Machine

/-- The NLF-4420: one field per block of 0.3, the events between blocks, and the waiting queue. -/
structure State where
  shaft : Shaft
  channel : Four Channel
  target : Target
  coupling : Coupling
  profile : Profile
  line : LineUnit
  timer : Timer
  link : Link
  notice : NoticeQueue
  store : Store
  mail : Mail
  /-- the commands and events that wait, first in, first out -/
  pending : List Instr
deriving DecidableEq, Repr

/-- The faults that stop the part. There is none: the manual stops the part on nothing (every command is
taken or refused with a reply, R157; every event has an effect or is ignored), so this type is empty. -/
inductive Fault where
deriving DecidableEq, Repr

/-- The refusals of the model. A refusal code of the part (R159) is no refusal of the model: it is a reply. -/
inductive Refusal where
  /-- raised by `exec` for a row of the table that has no meaning yet; safe. No row is so refused. -/
  | notModelled (mnemonic : String)
deriving DecidableEq, Repr

/-- The part right after a power-on reset with a settings memory never written (R182): every block at its
power-on values, the receiver OFF, an autoload begun, and nothing waiting. -/
def State.reset : State :=
  { shaft := .afterReset .default (dvOf 500) (dvOf 300)
    channel := Four.replicate (.afterReset .default false false)
    target := .afterReset .default (Seven.replicate 0)
    coupling := .afterReset couplingDefault
    profile := .afterReset thresholdDefault
    line := .afterReset .default
    timer := .afterReset
    link := .afterReset linkDefault .off
    notice := .afterReset .default
    store := .afterPowerOn []
    mail := .empty
    pending := [] }

end Sys2Proof.Machine
end

