-- ==== Sys2Proof/Machine/Flags.lean ====
section
/-! DEFINITION. The marks, permits and conditions the rules form from the state: which coupling states
contribute, rest or hold a position, which modes run, the permits, the logical outputs, and whether the
cell is idle. -/

namespace Sys2Proof.Machine

/-! ## Coupling states (R72) -/

/-- MATCHING, LOCKED and LOST_LOCK: the attached states, whose force record contributes (R43, R72). -/
def attached : CouplingState → Bool
  | .matching | .locked | .lostLock => true
  | .detached | .pendingAttach | .releasing | .releasedUnack => false

/-- DETACHED and RELEASED_UNACK: the brake is held (R72, R132). -/
def resting : CouplingState → Bool
  | .detached | .releasedUnack => true
  | .pendingAttach | .matching | .locked | .lostLock | .releasing => false

/-- DETACHED, PENDING_ATTACH and RELEASED_UNACK: demand 0 and enable 0 (R47, R49). -/
def undriven : CouplingState → Bool
  | .detached | .pendingAttach | .releasedUnack => true
  | .matching | .locked | .lostLock | .releasing => false

/-- LOCKED and LOST_LOCK: the target position is advanced (R66). -/
def positionHeld : CouplingState → Bool
  | .locked | .lostLock => true
  | .detached | .pendingAttach | .matching | .releasing | .releasedUnack => false

/-! ## Modes and run states -/

/-- ROAD_LOAD, SPEED_PROFILE and CONSTANT_SPEED are the running modes (R2). -/
def running : Mode → Bool
  | .roadLoad | .speedProfile | .constantSpeed => true
  | .idle | .stopping => false

/-- RUN_LAMP for a mode (R133). -/
def lampLit : Mode → Bool
  | .idle => false
  | .roadLoad | .speedProfile | .constantSpeed | .stopping => true

/-- ARMED or RUNNING. -/
def runActive : RunState → Bool
  | .armed | .running => true
  | .idle | .finished | .starved | .abandoned => false

/-- FINISHED, STARVED and ABANDONED: the ending states (R104, note 1). -/
def runEnded : RunState → Bool
  | .finished | .starved | .abandoned => true
  | .idle | .armed | .running => false

/-! ## Permits and logical outputs -/

/-- The run permit (R128). -/
def runPermitOf (i : LogInputs) : Bool :=
  i.estopChain && i.doorClosed && i.restraintOk && i.liftDown

/-- Roller permit `k` (R130). -/
def rollerPermitOf (i : LogInputs) (k : Roller) : Bool :=
  i.brakeReleased.get k && i.driveReady.get k

/-- LIFT_INHIBIT from the line unit's views (R132). -/
def liftInhibitOf (view : Four CouplingState) : Bool :=
  !(resting view.fl && resting view.fr && resting view.rl && resting view.rr)

/-! ## Conditions over blocks -/

/-- Every roller is DETACHED or RELEASED_UNACK, as the coupling controller holds it. -/
def allResting (c : Coupling) : Bool :=
  resting c.roller.fl.state && resting c.roller.fr.state && resting c.roller.rl.state &&
    resting c.roller.rr.state

/-- The shaft model is IDLE and every roller is DETACHED or RELEASED_UNACK (R138, R139, R180). -/
def cellIdle (s : State) : Bool :=
  decide (s.shaft.mode = .idle) && allResting s.coupling

/-- A force zeroing of the roller is in flight (R44). -/
def zeroingInFlight (s : State) (k : Roller) : Bool := (s.channel.get k).zeroing.isSome

/-- Every block has taken its section of the autoload's hand-over (R176). -/
def handedOver (s : State) : Bool := decide (s.mail.handover = .none)

/-- A store is in flight (R177). -/
def storing (s : State) : Bool := decide (s.store.activity = .storing)

/-- The receiver is inside a frame (R152, R154). -/
def inFrame : RxState → Bool
  | .address | .length | .kind | .tag | .payload | .crcHigh | .crcLow => true
  | .off | .hunt | .skip | .replying => false

end Sys2Proof.Machine
end

