-- ==== Sys2Proof/Machine/Ops.lean ====
section
/-! DEFINITION. The named operations over the state that every block's rules share: changing one
roller's part of a block, handing an event to another block, reporting to the notice queue, counting,
and the outcome of a command. -/

namespace Sys2Proof.Machine

/-! ## Outcome of a command (R157, R159) -/

/-- Refusal codes (R159). -/
inductive RefusalCode where
  | kind | length | range | state | busy | permit | unconfigured | full | closed
deriving DecidableEq, Repr

/-- What the owning block does with a command (R157): it takes it, with the state after it, the result
class, the reply fields after the class, and what acts after the reply (R164); or it refuses it whole. -/
inductive Taking where
  | taken (s : State) (cls : Nat) (fields : List Byte) (act : Option Deferred)
  | refused (code : RefusalCode)
deriving DecidableEq, Repr

/-- Taken with the result class alone. -/
def done (s : State) (cls : Nat) : Taking := .taken s cls [] none

/-- Taken with reply fields. -/
def doneWith (s : State) (cls : Nat) (fields : List Byte) : Taking := .taken s cls fields none

/-! ## One roller's part of a block -/

/-- Change one channel. -/
def onChannel (k : Roller) (f : Channel → Channel) (s : State) : State :=
  { s with channel := s.channel.set k (f (s.channel.get k)) }

/-- Change what target formation holds of one roller. -/
def onTarget (k : Roller) (f : TargetRoller → TargetRoller) (s : State) : State :=
  { s with target := { s.target with roller := s.target.roller.set k (f (s.target.roller.get k)) } }

/-- Change one roller's coupling state machine. -/
def onCoupling (k : Roller) (f : CouplingRoller → CouplingRoller) (s : State) : State :=
  { s with coupling := { s.coupling with roller := s.coupling.roller.set k (f (s.coupling.roller.get k)) } }

/-! ## Counters (R183) -/

/-- A counter increased by one; at 4 294 967 295 it stays (R183). -/
def bump (n : Nat) : Nat := satInc counterMax n

def onCounters (f : Counters → Counters) (s : State) : State :=
  { s with store := { s.store with counters := f s.store.counters } }

/-- Change the counters of one roller. -/
def onRollerCounters (k : Roller) (f : RollerCounters → RollerCounters) (s : State) : State :=
  onCounters (fun c => { c with roller := c.roller.set k (f (c.roller.get k)) }) s

def countAccepted : State → State := onCounters fun c => { c with framesAccepted := bump c.framesAccepted }
def countDiscarded : State → State := onCounters fun c => { c with framesDiscarded := bump c.framesDiscarded }
def countRefused : State → State := onCounters fun c => { c with commandsRefused := bump c.commandsRefused }
def countNoticeLost : State → State := onCounters fun c => { c with noticesDiscarded := bump c.noticesDiscarded }
def countUnderrun : State → State := onCounters fun c => { c with profileUnderruns := bump c.profileUnderruns }

def countLockLoss (k : Roller) : State → State :=
  onRollerCounters k fun c => { c with lockLosses := bump c.lockLosses }
def countSaturated (k : Roller) : State → State :=
  onRollerCounters k fun c => { c with saturatedIntervals := bump c.saturatedIntervals }
def countIllegal (k : Roller) : State → State :=
  onRollerCounters k fun c => { c with illegalTransitions := bump c.illegalTransitions }

/-- The roller's counter of a fault kind (R57). -/
def countFault (k : Roller) (kind : FaultKind) : State → State :=
  onRollerCounters k fun c =>
    match kind with
    | .encoder => { c with encoderFaults := bump c.encoderFaults }
    | .overspeed => { c with overspeedFaults := bump c.overspeedFaults }
    | .index => { c with indexFaults := bump c.indexFaults }
    | .force => { c with forceFaults := bump c.forceFaults }

/-! ## Events handed to other blocks -/

def onMail (f : Mail → Mail) (s : State) : State := { s with mail := f s.mail }

/-- One more event waiting at roller `k`'s place. -/
def enqueue {α : Type} (v : Four (List α)) (k : Roller) (x : α) : Four (List α) :=
  v.set k (v.get k ++ [x])

/-- A coupling change event to its five receivers (R73). -/
def sendChange (k : Roller) (c : Change) : State → State := onMail fun m =>
  { m with
    changeToChannel := enqueue m.changeToChannel k c
    changeToTarget := enqueue m.changeToTarget k c
    changeToShaft := enqueue m.changeToShaft k c
    changeToLine := enqueue m.changeToLine k c
    changeToNotice := enqueue m.changeToNotice k c }

/-- A run permit event to the shaft model and the coupling controller (R128). -/
def sendRunPermit (e : RunPermitEvent) : State → State := onMail fun m =>
  { m with permitToShaft := m.permitToShaft ++ [e], permitToCoupling := m.permitToCoupling ++ [e] }

/-- A roller permit event to the coupling controller (R130). -/
def sendRollerPermit (k : Roller) (e : RollerPermitEvent) : State → State := onMail fun m =>
  { m with rollerPermit := enqueue m.rollerPermit k e }

/-- An index edge to channel `k` (R127). -/
def sendIndexEdge (k : Roller) : State → State := onMail fun m =>
  { m with indexEdge := m.indexEdge.set k (m.indexEdge.get k + 1) }

/-- A mark edge to the cell timer (R127). -/
def sendMarkEdge : State → State := onMail fun m => { m with markEdge := m.markEdge + 1 }

/-- A ramp end or a measurement record from channel `k` to the coupling controller (R74). -/
def sendChannelMessage (k : Roller) (x : ChannelMessage) : State → State := onMail fun m =>
  { m with fromChannel := enqueue m.fromChannel k x }

/-- A fault handed off by channel `k` (R57). -/
def sendFault (k : Roller) (kind : FaultKind) : State → State := onMail fun m =>
  { m with fault := enqueue m.fault k kind }

/-- The shaft skew fault to the shaft model (R97). -/
def sendSkewFault : State → State := onMail fun m => { m with skewFault := m.skewFault + 1 }

/-- A run ending to the shaft model (R112, R113, R115). -/
def sendToShaft (x : ProfileHandoff) : State → State := onMail fun m => { m with toShaft := m.toShaft ++ [x] }

/-- An abandonment to the profile queue (R116). -/
def sendAbandonment (c : AbandonCause) : State → State := onMail fun m =>
  { m with abandonment := m.abandonment ++ [c] }

/-- A time mark of this cell time to the profile queue (R148). -/
def sendTimeMark (time : BitVec 32) : State → State := onMail fun m => { m with timeMark := m.timeMark ++ [time] }

/-- A change of MARK_OUT to the line unit (R111). -/
def sendMarkOut (v : Bool) : State → State := onMail fun m => { m with markOut := m.markOut ++ [v] }

/-- A published reference record to the line unit and the notice queue (R133, R167). -/
def sendRecord (r : RefRecord) : State → State := onMail fun m =>
  { m with modeToLine := m.modeToLine ++ [r.mode], recordToNotice := m.recordToNotice ++ [r] }

/-! ## Reports to the notice queue (9.1) -/

/-- Reports waiting from one sender. -/
def reportsOf (r : Reports) : Sender → List Report
  | .shaft => r.shaft
  | .channel k => r.channel.get k
  | .coupling => r.coupling
  | .profile => r.profile
  | .line => r.line
  | .timer => r.timer
  | .store => r.store

/-- Replace the reports waiting from one sender. -/
def setReports (r : Reports) (x : Sender) (l : List Report) : Reports :=
  match x with
  | .shaft => { r with shaft := l }
  | .channel k => { r with channel := r.channel.set k l }
  | .coupling => { r with coupling := l }
  | .profile => { r with profile := l }
  | .line => { r with line := l }
  | .timer => { r with timer := l }
  | .store => { r with store := l }

/-- Hand a report to the notice queue; each sender's reports wait in the order handed (R168). -/
def sendReport (x : Sender) (r : Report) : State → State := onMail fun m =>
  { m with reports := setReports m.reports x (reportsOf m.reports x ++ [r]) }

/-- A report stamped by its sender with the cell time as last published (R166). -/
def reportStamped (x : Sender) (b : NoticeBody) (s : State) : State :=
  sendReport x ⟨some s.timer.time, b⟩ s

/-- A report whose header the notice queue stamps (R166). -/
def reportPlain (x : Sender) (b : NoticeBody) : State → State := sendReport x ⟨none, b⟩

end Sys2Proof.Machine
end

