-- ==== Sys2Proof/Machine/Layouts.lean ====
section
/-! DEFINITION. The codes of the enumerations (R187, 6.2, 8.7) and the bytes of every record the part
sends or stores (chapter 11). -/

namespace Sys2Proof.Machine

/-! ## Enumeration codes (R187) -/

def modeCode : Mode → Nat
  | .idle => 0
  | .roadLoad => 1
  | .speedProfile => 2
  | .constantSpeed => 3
  | .stopping => 4

def modeOfCode : Nat → Option Mode
  | 0 => some .idle
  | 1 => some .roadLoad
  | 2 => some .speedProfile
  | 3 => some .constantSpeed
  | 4 => some .stopping
  | _ => none

def stopCauseCode : StopCause → Nat
  | .none => 0
  | .command => 1
  | .estop => 2
  | .permit => 3
  | .underrun => 4
  | .skew => 5
  | .noRollers => 6

def couplingCode : CouplingState → Nat
  | .detached => 0
  | .pendingAttach => 1
  | .matching => 2
  | .locked => 3
  | .lostLock => 4
  | .releasing => 5
  | .releasedUnack => 6

def reasonCode : Reason → Nat
  | .attach => 1
  | .permits => 2
  | .matched => 3
  | .lockLoss => 4
  | .relocked => 5
  | .settled => 6
  | .notSettled => 7
  | .acknowledged => 8
  | .command => 16
  | .attachTimeout => 17
  | .lockTimeout => 18
  | .encoder => 19
  | .overspeed => 20
  | .index => 21
  | .force => 22
  | .rollerPermit => 23
  | .isolated => 24
  | .estop => 25
  | .reset => 26

def faultCode : FaultKind → Nat
  | .encoder => 19
  | .overspeed => 20
  | .index => 21
  | .force => 22

def runCode : RunState → Nat
  | .idle => 0
  | .armed => 1
  | .running => 2
  | .finished => 3
  | .starved => 4
  | .abandoned => 5

def abandonCode : AbandonCause → Nat
  | .command => 0
  | .mode => 1
  | .stop => 2

def conditionCode : StartCond → Nat
  | .immediate => 0
  | .atMark => 1

def conditionOfCode : Nat → Option StartCond
  | 0 => some .immediate
  | 1 => some .atMark
  | _ => none

def sourceCode : MarkSource → Nat
  | .compare => 0
  | .extMark => 1

def sourceOfCode : Nat → Option MarkSource
  | 0 => some .compare
  | 1 => some .extMark
  | _ => none

def directionCode : Direction → Nat
  | .normal => 0
  | .inverted => 1

def directionOfCode : Nat → Option Direction
  | 0 => some .normal
  | 1 => some .inverted
  | _ => none

def stageCode : StoreStage → Nat
  | .mark => 0
  | .write => 1
  | .seal => 2
  | .check => 3

def statusCode : ReadingStatus → Nat
  | .valid => 0
  | .overRange => 1
  | .none => 2

/-- A status code outside 0, 1, 2 is taken as NONE (R40, R188). -/
def statusOfCode : Nat → ReadingStatus
  | 0 => .valid
  | 1 => .overRange
  | _ => .none

def activityCode : Activity → Nat
  | .idle => 0
  | .loading => 1
  | .storing => 2

def storeOutcomeCode : StoreOutcome → Nat
  | .none => 0
  | .ok => 1
  | .failed _ => 2

/-- Refusal codes (R159). -/
def refusalCode : RefusalCode → Nat
  | .kind => 1
  | .length => 2
  | .range => 3
  | .state => 4
  | .busy => 5
  | .permit => 6
  | .unconfigured => 7
  | .full => 8
  | .closed => 9

/-! ## Numbers of rollers, entries, groups and lines -/

def rollerNum : Roller → Nat
  | .fl => 1
  | .fr => 2
  | .rl => 3
  | .rr => 4

def rollerOfNum : Nat → Option Roller
  | 1 => some .fl
  | 2 => some .fr
  | 3 => some .rl
  | 4 => some .rr
  | _ => none

def entryOfNum : Nat → Option Entry
  | 1 => some .e1
  | 2 => some .e2
  | 3 => some .e3
  | 4 => some .e4
  | 5 => some .e5
  | 6 => some .e6
  | 7 => some .e7
  | _ => none

def groupOfNum : Nat → Option Group
  | 1 => some .g1
  | 2 => some .g2
  | 3 => some .g3
  | _ => none

def slotOfIndex : Nat → Slot
  | 0 => .p1
  | 1 => .p2
  | 2 => .p3
  | 3 => .p4
  | 4 => .p5
  | 5 => .p6
  | 6 => .p7
  | _ => .p8

def slotIndex : Slot → Nat
  | .p1 => 0
  | .p2 => 1
  | .p3 => 2
  | .p4 => 3
  | .p5 => 4
  | .p6 => 5
  | .p7 => 6
  | .p8 => 7

/-- L1 … L24. -/
def lineNum (l : LineId) : Nat :=
  (match l.group with
    | .g1 => 0
    | .g2 => 8
    | .g3 => 16) + slotIndex l.slot + 1

def lineOfNum (n : Nat) : Option LineId :=
  if n = 0 then none
  else if n ≤ 8 then some ⟨.g1, slotOfIndex (n - 1)⟩
  else if n ≤ 16 then some ⟨.g2, slotOfIndex (n - 9)⟩
  else if n ≤ 24 then some ⟨.g3, slotOfIndex (n - 17)⟩
  else none

/-! ## Function codes (6.2) -/

/-- The place of a roller in a run of four codes. -/
def rollerIndex (k : Roller) : Nat := rollerNum k - 1

/-- The place of a logical input among the seventeen: its function code less 2. -/
def inputIndex : LogIn → Nat
  | .estopChain => 0
  | .doorClosed => 1
  | .restraintOk => 2
  | .liftDown => 3
  | .brakeReleased k => 4 + rollerIndex k
  | .driveReady k => 8 + rollerIndex k
  | .index k => 12 + rollerIndex k
  | .extMark => 16

/-- The seventeen logical inputs in the order of their function codes. -/
def allInputs : List LogIn :=
  [.estopChain, .doorClosed, .restraintOk, .liftDown] ++ Roller.all.map .brakeReleased ++
    Roller.all.map .driveReady ++ Roller.all.map .index ++ [.extMark]

/-- The place of a logical output among the seven: its function code less 19. -/
def outputIndex : LogOut → Nat
  | .brakeHold k => rollerIndex k
  | .liftInhibit => 4
  | .runLamp => 5
  | .markOut => 6

def allOutputs : List LogOut := Roller.all.map .brakeHold ++ [.liftInhibit, .runLamp, .markOut]

def functionCode : Function → Nat
  | .generalIn => 0
  | .generalOut => 1
  | .input i => 2 + inputIndex i
  | .output o => 19 + outputIndex o

/-- The functions in the order of their codes 0 … 25. -/
def allFunctions : List Function :=
  [.generalIn, .generalOut] ++ allInputs.map .input ++ allOutputs.map .output

/-- Codes 26 … 255 are undefined (6.2, note 1). -/
def functionOfCode (n : Nat) : Option Function := allFunctions[n]?

/-! ## Records (11.3 to 11.6) -/

/-- The reference record, 34 bytes (11.5). -/
def refRecordBytes (r : RefRecord) : List Byte :=
  be 2 r.seq.toNat ++ [byte (modeCode r.mode)] ++ be 4 (toMm r.speed) ++ be 4 r.dv ++ be 4 r.distance.toNat ++
  be 4 r.fMeas ++ be 4 r.roadLoad ++ be 4 r.fGrade ++ be 2 r.grade ++ be 4 (r.traceSpeed.getD 0) ++
  [byte (marks [r.accLimited, r.speedLimited, r.traceSpeed.isSome])]

/-- One roller block of a shaft sample, 19 bytes (11.5). -/
def rollerSampleBytes (r : RollerSample) : List Byte :=
  [byte (couplingCode r.state)] ++ be 4 r.vMeas ++ be 4 r.ex ++ be 4 r.demand ++ be 4 r.force ++
  be 2 r.refSeq.toNat

/-- The roller record, 33 bytes: the FULL form of SET ROLLER from S to Kv (11.3). -/
def rollerRecBytes (r : RollerRec) : List Byte :=
  be 4 r.scale ++ [byte (directionCode r.direction)] ++ be 2 r.mass ++ be 4 r.gain ++ be 4 r.zero ++
  be 4 r.dMax ++ be 4 r.overspeed ++ be 4 r.countsPerRev ++ be 2 r.indexTol ++ be 2 r.kp ++ be 2 r.kv

/-- The road-load fields, 10 bytes (11.3). -/
def roadLoadBytes (r : RoadLoad) : List Byte :=
  be 2 r.m ++ be 2 r.a ++ be 2 r.b ++ be 2 r.c ++ be 2 r.grade

/-- The limits, 10 bytes (11.3). -/
def limitsBytes (l : Limits) : List Byte := be 4 l.vMax ++ be 2 l.vRev ++ be 2 l.aLim ++ be 2 l.aStop

/-- The thirteen coupling parameters, 30 bytes (11.3). -/
def couplingBytes (p : CouplingParams) : List Byte :=
  be 2 p.vWin ++ be 2 p.nMatch ++ be 4 p.xWin ++ be 2 p.nLoss ++ be 2 p.nRelock ++ be 2 p.tLoss ++
  be 2 p.tAttach ++ be 2 p.vStill ++ be 2 p.nSettle ++ be 2 p.tRelease ++ be 2 p.ramp ++
  be 4 p.skewLimit ++ be 2 p.skewFlywheel

/-- Enable set 2, sample period 2, selection 3 (11.3). -/
def noticeSettingsBytes (n : NoticeSettings) : List Byte :=
  be 2 n.enable.toNat ++ be 2 n.period ++ be 3 n.selection.toNat

/-- Node address, group address and rate code (11.3). -/
def linkBytes (l : LinkSettings) : List Byte := [byte l.node, byte l.group, byte l.rate]

/-- The permits as a set of marks: bit 0 the run permit, bits 1 … 4 the roller permits (11.3). -/
def permitsByte (u : LineUnit) : Byte := byte (marks (u.runPermit :: u.rollerPermit.toList))

/-- A profile point, 8 bytes or 9 with a cue (11.4). -/
def pointBytes (p : Point) : List Byte :=
  be 2 p.duration ++ be 3 p.speed ++ be 2 p.grade ++ [byte (marks [p.isEnd, p.cue.isSome])] ++
  (match p.cue with
    | none => []
    | some c => [byte c])

/-! ## Notices (11.6) -/

/-- Notice kind 1 … 10. -/
def noticeKind : NoticeBody → Nat
  | .couplingChange .. => 1
  | .modeChange .. => 2
  | .profile .. => 3
  | .skew .. => 4
  | .lineChange .. => 5
  | .timeMark .. => 6
  | .zeroDone .. => 7
  | .storeDone .. => 8
  | .reloadDone .. => 9
  | .shaftSample .. => 10

/-- Speed, points consumed, count and detail of a PROFILE notice, after its event and run state (11.6). -/
def profileEventBytes (e : ProfileEvent) (run : RunState) : List Byte :=
  let fields (event : Nat) (speed : Int) (consumed count detail : Nat) : List Byte :=
    [byte event, byte (runCode run)] ++ be 4 speed ++ be 2 consumed ++ [byte count, byte detail]
  match e with
  | .space free => fields 0 0 0 free 0
  | .started c v held => fields 1 v 0 held (conditionCode c)
  | .lateStart c v held => fields 2 v 0 held (conditionCode c)
  | .cue n consumed => fields 3 0 consumed 0 n
  | .finished v consumed => fields 4 v consumed 0 0
  | .starved v consumed => fields 5 v consumed 0 0
  | .abandoned c v consumed held => fields 6 v consumed held (abandonCode c)

/-- The content of a notice (11.6). -/
def noticeContent : NoticeBody → List Byte
  | .couplingChange k p n r =>
    [byte (rollerNum k), byte (couplingCode p), byte (couplingCode n), byte (reasonCode r)]
  | .modeChange p n c v seq =>
    [byte (modeCode p), byte (modeCode n), byte (stopCauseCode c)] ++ be 4 v ++ be 2 seq.toNat
  | .profile e run => profileEventBytes e run
  | .skew x a b ea eb => be 4 x ++ [byte (rollerNum a), byte (rollerNum b)] ++ be 4 ea ++ be 4 eb
  | .lineChange i v l routing =>
    [byte (functionCode (.input i)), flag v, byte ((l.map lineNum).getD 0), flag routing]
  | .timeMark src n => [byte (sourceCode src)] ++ be 2 n.toNat
  | .zeroDone k ok z n st =>
    [byte (rollerNum k), flag (!ok)] ++ be 4 z ++ [byte n, byte (if ok then 0 else statusCode st)]
  | .storeDone ok st => [flag (!ok), byte (stageCode st)]
  | .reloadDone image => [flag (!image)]
  | .shaftSample r rs => refRecordBytes r ++ rs.toList.flatMap rollerSampleBytes

/-- A notice: a header of 7 bytes and its content (11.6). -/
def noticeBytes (n : Notice) : List Byte :=
  let content := noticeContent n.body
  [byte (noticeKind n.body), n.seq] ++ be 4 n.time.toNat ++ [byte content.length] ++ content

/-! ## Demand frame (11.7) and the frames of the link (11.2) -/

/-- The nine bytes of a demand frame on its drive link (11.7). -/
def demandFrameBytes (f : DemandFrame) : List Byte :=
  let body := [f.seq, flag f.enable] ++ be 4 f.demand
  [0xA5#8] ++ body ++ crc16Bytes (crc16 body)

/-- A frame on the line: start, address, length, kind, tag, payload and CRC-16 (8.2). -/
def frameBytes (addr kind tag : Byte) (payload : List Byte) : List Byte :=
  let body := [addr, byte payload.length, kind, tag] ++ payload
  [0x5A#8] ++ body ++ crc16Bytes (crc16 body)

/-- The bytes a reply puts on the line (R158). -/
def replyBytes (r : Reply) : List Byte := frameBytes r.addr r.kind r.tag r.payload

/-! ## The settings image (11.8) -/

/-- Format code of an image this part writes (R175). -/
def imageFormat : Nat := 0x4E31

/-- Section length of that format (11.8). -/
def sectionLength : Nat := 280

/-- The sections of the image, 280 bytes (11.8). -/
def sectionBytes (x : Settings) : List Byte :=
  linkBytes x.link ++ roadLoadBytes x.shaft.road ++ limitsBytes x.shaft.limits ++ be 4 x.shaft.setpoint ++
  x.rollers.toList.flatMap rollerRecBytes ++ couplingBytes x.coupling ++
  x.ratio.goals.toList.flatMap (be 4) ++ x.ratio.selects.toList.map byte ++
  (x.line.functions.inOrder.map fun f => byte (functionCode f)) ++ x.line.counts.inOrder.map byte ++
  x.line.periods.toList.map byte ++ [byte x.threshold] ++ noticeSettingsBytes x.notice

/-- The header of an image: format code 2, length 2, CRC-32 4 (11.8). -/
def headerBytes (sections : List Byte) : List Byte :=
  be 2 imageFormat ++ be 2 sections.length ++ be 4 (crc32 sections).toNat

/-- A whole image, 288 bytes (11.8). -/
def imageBytes (x : Settings) : List Byte := headerBytes (sectionBytes x) ++ sectionBytes x

end Sys2Proof.Machine
end

