-- ==== Sys2Proof/Machine/Operands.lean ====
section
/-! DEFINITION. The ranges of every field (R12, R33, R75, R99, R118, R139, R163, R169), the payloads of
the command frames (11.3, 11.4) read and written, and the settings image read (R175, 11.8). -/

namespace Sys2Proof.Machine

/-! ## Ranges -/

/-- The road-load fields lie in their ranges (R12). -/
def roadLoadOk (r : RoadLoad) : Bool :=
  inRange 450 5500 r.m && inRange 0 65535 r.a && inRange 0 65535 r.b && inRange 0 65535 r.c &&
    inRange (-3000) 3000 r.grade

/-- The limits lie in their ranges (R12). -/
def limitsOk (l : Limits) : Bool :=
  inRange 1000 80000 l.vMax && inRange 0 5000 l.vRev && inRange 1 1000 l.aLim && inRange 1 1000 l.aStop

/-- A speed lies in [−v_rev, v_max] of the limits (R12). -/
def speedOk (l : Limits) (v : Int) : Bool := inRange (-(l.vRev : Int)) l.vMax v

/-- A speed in mm/s clamped into [−v_rev, v_max] (R15, R101). -/
def clampSpeed (l : Limits) (v : Int) : Int := clampTo (-(l.vRev : Int)) l.vMax v

/-- Kp and Kv lie in their ranges (R33). -/
def gainsOk (kp kv : Nat) : Bool := inRange 0 65535 kp && inRange 0 65535 kv

/-- The eleven carried fields as a roller record, when each lies in its range (R33). -/
def rollerOfFields (f : RollerFields) : Option RollerRec :=
  match directionOfCode f.direction with
  | none => none
  | some d =>
    if inRange 0 16777215 f.scale && inRange 50 5000 f.mass && inRange 1 1048575 f.gain &&
        inRange (-8388608) 8388607 f.zero && inRange 0 250000 f.dMax && inRange 1000 90000 f.overspeed &&
        inRange 0 4194304 f.countsPerRev && inRange 0 1000 f.indexTol && gainsOk f.kp f.kv then
      some { scale := f.scale, direction := d, mass := f.mass, gain := f.gain, zero := f.zero
             dMax := f.dMax, overspeed := f.overspeed, countsPerRev := f.countsPerRev
             indexTol := f.indexTol, kp := f.kp, kv := f.kv }
    else none

/-- The thirteen coupling parameters lie in their ranges (R75). -/
def couplingOk (p : CouplingParams) : Bool :=
  inRange 1 2000 p.vWin && inRange 1 1000 p.nMatch && inRange 100 500000 p.xWin && inRange 1 1000 p.nLoss &&
    inRange 1 1000 p.nRelock && inRange 100 60000 p.tLoss && inRange 100 60000 p.tAttach &&
    inRange 1 500 p.vStill && inRange 1 1000 p.nSettle && inRange 1000 60000 p.tRelease &&
    inRange 1 2000 p.ramp && inRange 1000 500000 p.skewLimit && inRange 1 1000 p.skewFlywheel

/-- The link settings lie in their ranges (R163). -/
def linkOk (l : LinkSettings) : Bool :=
  inRange 1 239 l.node && (decide (l.group = 0) || inRange 240 254 l.group) && inRange 0 3 l.rate

/-- A sample period is 0 or 10 … 1 000 (R169). -/
def samplePeriodOk (n : Nat) : Bool := decide (n = 0) || inRange 10 1000 n

/-- A qualification count is 1, 3 or 6 (R139). -/
def countOk (n : Nat) : Bool := decide (n = 1) || decide (n = 3) || decide (n = 6)

/-- The eight counts of a group are each 1, 3 or 6 (R139). -/
def countsOk (c : Eight Nat) : Bool := c.toList.all countOk

/-- A start threshold is 1 … 64 (R118). -/
def thresholdOk (n : Nat) : Bool := inRange 1 64 n

/-- A ratio goal lies in −50 000 … 50 000 (R59). -/
def goalOk (g : Int) : Bool := inRange (-50000) 50000 g

/-! ## Profile points (11.4) -/

/-- The `n` points a load carries, walked by their MARK flags; nothing when the bytes are too few or too
many (R100, 11.4). Flag bits other than END and MARK are ignored. -/
def parsePoints : Nat → List Byte → Option (List Point)
  | 0, [] => some []
  | 0, _ :: _ => none
  | n + 1, p =>
    if p.length < 8 then none
    else
      let flags := fieldU 7 1 p
      let isEnd := decide (flags % 2 = 1)
      let point (cue : Option Nat) : Point :=
        { duration := fieldU 0 2 p, speed := fieldS 2 3 p, grade := fieldS 5 2 p, isEnd := isEnd, cue := cue }
      if flags / 2 % 2 = 1 then
        if p.length < 9 then none
        else (parsePoints n (p.drop 9)).map (point (some (fieldU 8 1 p)) :: ·)
      else (parsePoints n (p.drop 8)).map (point none :: ·)

/-! ## Command payloads (8.7, 11.3) -/

/-- The kind of a command frame (8.7). -/
def cmdKind : Cmd → Nat
  | .selectMode .. => 0x10
  | .setRoadLoad .. => 0x11
  | .setLimits .. => 0x12
  | .setSpeed .. => 0x13
  | .stop => 0x14
  | .readReference => 0x15
  | .setRoller .. => 0x20
  | .readRoller .. => 0x21
  | .zeroForce .. => 0x22
  | .setRatio .. => 0x28
  | .selectRatio .. => 0x29
  | .nudge .. => 0x2A
  | .attach .. => 0x30
  | .release .. => 0x31
  | .isolate .. => 0x32
  | .acknowledgeRelease .. => 0x33
  | .setCoupling .. => 0x34
  | .loadPoints .. => 0x40
  | .startProfile .. => 0x41
  | .abandonProfile => 0x42
  | .clearProfile => 0x43
  | .setProfile .. => 0x44
  | .readProfile => 0x45
  | .routeLine .. => 0x50
  | .setQualifier .. => 0x51
  | .driveLines .. => 0x52
  | .readLines => 0x53
  | .setTime .. => 0x60
  | .setCompare .. => 0x61
  | .readTime => 0x62
  | .fetchNotices => 0x68
  | .setNotices .. => 0x69
  | .storeSettings => 0x70
  | .reloadSettings => 0x71
  | .reset => 0x72
  | .readCounters .. => 0x73
  | .readIdentity => 0x74
  | .readStatus => 0x75
  | .setLink .. => 0x78

/-- The eleven carried fields at `off` (11.3). -/
def rollerFieldsAt (off : Nat) (p : List Byte) : RollerFields :=
  { scale := fieldU off 4 p, direction := fieldU (off + 4) 1 p, mass := fieldU (off + 5) 2 p
    gain := fieldU (off + 7) 4 p, zero := fieldS (off + 11) 4 p, dMax := fieldU (off + 15) 4 p
    overspeed := fieldU (off + 19) 4 p, countsPerRev := fieldU (off + 23) 4 p
    indexTol := fieldU (off + 27) 2 p, kp := fieldU (off + 29) 2 p, kv := fieldU (off + 31) 2 p }

def roadLoadAt (off : Nat) (p : List Byte) : RoadLoad :=
  { m := fieldU off 2 p, a := fieldU (off + 2) 2 p, b := fieldU (off + 4) 2 p, c := fieldU (off + 6) 2 p
    grade := fieldS (off + 8) 2 p }

def limitsAt (off : Nat) (p : List Byte) : Limits :=
  { vMax := fieldU off 4 p, vRev := fieldU (off + 4) 2 p, aLim := fieldU (off + 6) 2 p
    aStop := fieldU (off + 8) 2 p }

def couplingAt (off : Nat) (p : List Byte) : CouplingParams :=
  { vWin := fieldU off 2 p, nMatch := fieldU (off + 2) 2 p, xWin := fieldU (off + 4) 4 p
    nLoss := fieldU (off + 8) 2 p, nRelock := fieldU (off + 10) 2 p, tLoss := fieldU (off + 12) 2 p
    tAttach := fieldU (off + 14) 2 p, vStill := fieldU (off + 16) 2 p, nSettle := fieldU (off + 18) 2 p
    tRelease := fieldU (off + 20) 2 p, ramp := fieldU (off + 22) 2 p, skewLimit := fieldU (off + 24) 4 p
    skewFlywheel := fieldU (off + 28) 2 p }

def eightAt (off : Nat) (p : List Byte) : Eight Nat :=
  ⟨fieldU off 1 p, fieldU (off + 1) 1 p, fieldU (off + 2) 1 p, fieldU (off + 3) 1 p,
   fieldU (off + 4) 1 p, fieldU (off + 5) 1 p, fieldU (off + 6) 1 p, fieldU (off + 7) 1 p⟩

def linkAt (off : Nat) (p : List Byte) : LinkSettings :=
  ⟨fieldU off 1 p, fieldU (off + 1) 1 p, fieldU (off + 2) 1 p⟩

/-- A payload of exactly `n` bytes carries this command; any other length is refused LENGTH (R187). -/
def sized (n : Nat) (p : List Byte) (c : Cmd) : Except RefusalCode Cmd :=
  if p.length = n then .ok c else .error .length

/-- The command a frame of this kind and payload carries: refused KIND when the kind names no command,
LENGTH when the payload has not one of the lengths of the command (R156, R157, 11.3). -/
def cmdOfFrame (kind : Nat) (p : List Byte) : Except RefusalCode Cmd :=
  match kind with
  | 0x10 => sized 1 p (.selectMode (fieldU 0 1 p))
  | 0x11 => sized 10 p (.setRoadLoad (roadLoadAt 0 p))
  | 0x12 => sized 10 p (.setLimits (limitsAt 0 p))
  | 0x13 => sized 4 p (.setSpeed (fieldS 0 4 p))
  | 0x14 => sized 0 p .stop
  | 0x15 => sized 0 p .readReference
  | 0x20 =>
    if p.length = 6 then .ok (.setRoller (fieldU 0 1 p) (fieldU 1 1 p) (.gains (fieldU 2 2 p) (fieldU 4 2 p)))
    else sized 35 p (.setRoller (fieldU 0 1 p) (fieldU 1 1 p) (.full (rollerFieldsAt 2 p)))
  | 0x21 => sized 1 p (.readRoller (fieldU 0 1 p))
  | 0x22 => sized 1 p (.zeroForce (fieldU 0 1 p))
  | 0x28 => sized 5 p (.setRatio (fieldU 0 1 p) (fieldS 1 4 p))
  | 0x29 => sized 2 p (.selectRatio (fieldU 0 1 p) (fieldU 1 1 p))
  | 0x2A => sized 5 p (.nudge (fieldU 0 1 p) (fieldS 1 4 p))
  | 0x30 => sized 1 p (.attach (fieldU 0 1 p))
  | 0x31 => sized 1 p (.release (fieldU 0 1 p))
  | 0x32 => sized 1 p (.isolate (fieldU 0 1 p))
  | 0x33 => sized 1 p (.acknowledgeRelease (fieldU 0 1 p))
  | 0x34 => if p.length = 0 then .ok (.setCoupling none) else sized 30 p (.setCoupling (some (couplingAt 0 p)))
  | 0x40 =>
    if 9 ≤ p.length ∧ p.length ≤ 145 then .ok (.loadPoints (fieldU 0 1 p) (p.drop 1)) else .error .length
  | 0x41 => sized 1 p (.startProfile (fieldU 0 1 p))
  | 0x42 => sized 0 p .abandonProfile
  | 0x43 => sized 0 p .clearProfile
  | 0x44 => sized 1 p (.setProfile (fieldU 0 1 p))
  | 0x45 => sized 0 p .readProfile
  | 0x50 => sized 2 p (.routeLine (fieldU 0 1 p) (fieldU 1 1 p))
  | 0x51 => sized 10 p (.setQualifier (fieldU 0 1 p) (fieldU 1 1 p) (eightAt 2 p))
  | 0x52 =>
    sized 9 p (.driveLines (BitVec.ofNat 24 (fieldU 0 3 p)) (BitVec.ofNat 24 (fieldU 3 3 p))
      (BitVec.ofNat 24 (fieldU 6 3 p)))
  | 0x53 => sized 0 p .readLines
  | 0x60 => sized 4 p (.setTime (fieldU 0 4 p))
  | 0x61 => sized 5 p (.setCompare (fieldU 0 4 p) (fieldU 4 1 p))
  | 0x62 => sized 0 p .readTime
  | 0x68 => sized 0 p .fetchNotices
  | 0x69 =>
    sized 7 p (.setNotices (BitVec.ofNat 16 (fieldU 0 2 p)) (fieldU 2 2 p) (BitVec.ofNat 24 (fieldU 4 3 p)))
  | 0x70 => sized 0 p .storeSettings
  | 0x71 => sized 0 p .reloadSettings
  | 0x72 => sized 0 p .reset
  | 0x73 => sized 1 p (.readCounters (fieldU 0 1 p))
  | 0x74 => sized 0 p .readIdentity
  | 0x75 => sized 0 p .readStatus
  | 0x78 => sized 3 p (.setLink (linkAt 0 p))
  | _ => .error .kind

/-- The length check that needs more than the kind: a defined form of SET ROLLER with the length of the
other form, or a LOAD POINTS outside the shortest and longest load, is refused LENGTH; an undefined form
passes to the RANGE check of R34 (R157, R187). -/
def lengthOk : Cmd → Bool
  | .setRoller _ 0 (.full _) => false
  | .setRoller _ 1 (.gains _ _) => false
  | .loadPoints _ points => decide (8 ≤ points.length) && decide (points.length ≤ 144)
  | _ => true

/-- The eleven carried fields, 33 bytes (11.3). -/
def rollerFieldsBytes (f : RollerFields) : List Byte :=
  be 4 f.scale ++ [byte f.direction] ++ be 2 f.mass ++ be 4 f.gain ++ be 4 f.zero ++ be 4 f.dMax ++
  be 4 f.overspeed ++ be 4 f.countsPerRev ++ be 2 f.indexTol ++ be 2 f.kp ++ be 2 f.kv

/-- The payload of a command (11.3): what the cell computer puts on the line. -/
def cmdPayload : Cmd → List Byte
  | .selectMode m => [byte m]
  | .setRoadLoad r => roadLoadBytes r
  | .setLimits l => limitsBytes l
  | .setSpeed v => be 4 v
  | .setRoller k form (.gains kp kv) => [byte k, byte form] ++ be 2 kp ++ be 2 kv
  | .setRoller k form (.full f) => [byte k, byte form] ++ rollerFieldsBytes f
  | .readRoller k | .zeroForce k | .attach k | .release k | .isolate k | .acknowledgeRelease k => [byte k]
  | .setRatio i g => [byte i] ++ be 4 g
  | .selectRatio k n => [byte k, byte n]
  | .nudge k d => [byte k] ++ be 4 d
  | .setCoupling none => []
  | .setCoupling (some p) => couplingBytes p
  | .loadPoints n ps => [byte n] ++ ps
  | .startProfile c => [byte c]
  | .setProfile n => [byte n]
  | .routeLine l c => [byte l, byte c]
  | .setQualifier g p cs => [byte g, byte p] ++ cs.toList.map byte
  | .driveLines a b c => be 3 a.toNat ++ be 3 b.toNat ++ be 3 c.toNat
  | .setTime t => be 4 t
  | .setCompare v src => be 4 v ++ [byte src]
  | .setNotices e n sel => be 2 e.toNat ++ be 2 n ++ be 3 sel.toNat
  | .readCounters o => [byte o]
  | .setLink l => linkBytes l
  | .stop | .readReference | .abandonProfile | .clearProfile | .readProfile | .readLines | .readTime
  | .fetchNotices | .storeSettings | .reloadSettings | .reset | .readIdentity | .readStatus => []

/-- The frame that carries a command (8.2). -/
def cmdFrame (h : Head) (c : Cmd) : List Byte :=
  frameBytes h.addr (byte (cmdKind c)) h.tag (cmdPayload c)

/-! ## The settings image (R175, 11.8) -/

/-- Twenty-four one-byte fields from `off`, in line order. -/
def linesAt (off : Nat) (p : List Byte) : Lines Nat :=
  ⟨eightAt off p, eightAt (off + 8) p, eightAt (off + 16) p⟩

/-- Function codes as functions; nothing when one of the eight is undefined. -/
def eightFunctions (c : Eight Nat) : Option (Eight Function) := do
  let a ← functionOfCode c.p1
  let b ← functionOfCode c.p2
  let d ← functionOfCode c.p3
  let e ← functionOfCode c.p4
  let f ← functionOfCode c.p5
  let g ← functionOfCode c.p6
  let h ← functionOfCode c.p7
  let i ← functionOfCode c.p8
  return ⟨a, b, d, e, f, g, h, i⟩

def linesFunctions (c : Lines Nat) : Option (Lines Function) := do
  let a ← eightFunctions c.g1
  let b ← eightFunctions c.g2
  let d ← eightFunctions c.g3
  return ⟨a, b, d⟩

/-- The live settings that 280 section bytes carry; nothing when any field lies outside the range of its
owning rule, the setpoint taken with the limits of the same image (R175). Set bits beyond the last
member of a set of marks are ignored (R187). -/
def settingsOfSections (p : List Byte) : Option Settings := do
  let link := linkAt 0 p
  let road := roadLoadAt 3 p
  let limits := limitsAt 13 p
  let setpoint := fieldS 23 4 p
  let fl ← rollerOfFields (rollerFieldsAt 27 p)
  let fr ← rollerOfFields (rollerFieldsAt 60 p)
  let rl ← rollerOfFields (rollerFieldsAt 93 p)
  let rr ← rollerOfFields (rollerFieldsAt 126 p)
  let coupling := couplingAt 159 p
  let goals : Seven Int :=
    ⟨fieldS 189 4 p, fieldS 193 4 p, fieldS 197 4 p, fieldS 201 4 p, fieldS 205 4 p, fieldS 209 4 p,
     fieldS 213 4 p⟩
  let selects : Four Nat := ⟨fieldU 217 1 p, fieldU 218 1 p, fieldU 219 1 p, fieldU 220 1 p⟩
  let functions ← linesFunctions (linesAt 221 p)
  let counts := linesAt 245 p
  let periods : Three Nat := ⟨fieldU 269 1 p, fieldU 270 1 p, fieldU 271 1 p⟩
  let threshold := fieldU 272 1 p
  let period := fieldU 275 2 p
  if p.length = sectionLength ∧ linkOk link ∧ roadLoadOk road ∧ limitsOk limits ∧ speedOk limits setpoint ∧
      couplingOk coupling ∧ goals.toList.all goalOk ∧ (selects.toList.all fun n => decide (n ≤ 7)) ∧
      counts.inOrder.all countOk ∧ thresholdOk threshold ∧ samplePeriodOk period then
    some
      { link := link, shaft := ⟨road, limits, setpoint⟩, rollers := ⟨fl, fr, rl, rr⟩, coupling := coupling
        ratio := ⟨goals, selects⟩, line := ⟨functions, counts, periods⟩, threshold := threshold
        notice := ⟨BitVec.ofNat 9 (fieldU 273 2 p), period, BitVec.ofNat 17 (fieldU 277 3 p)⟩ }
  else none

/-- The settings of a valid image of 288 bytes: format code, length and CRC-32 agree and every field lies
in its range (R175). -/
def settingsOfImage (image : List Byte) : Option Settings :=
  let sections := image.drop 8
  if fieldU 0 2 image = imageFormat ∧ fieldU 2 2 image = sectionLength ∧
      fieldU 4 4 image = (crc32 sections).toNat then
    settingsOfSections sections
  else none

end Sys2Proof.Machine
end

