-- ==== Sys2Proof/Machine/Readout.lean ====
section
/-! DEFINITION. READ ROLLER (R36, R70, R95): what three blocks hold of one roller, in one reply. -/

namespace Sys2Proof.Machine

/-- The last-fault record: kind, cell time, coupling view, detail; all 0 when empty (R57, 11.3). -/
def faultRecordBytes : Option FaultRecord → List Byte
  | none => List.replicate 10 0#8
  | some f => [byte (faultCode f.kind)] ++ be 4 f.time.toNat ++ [byte (couplingCode f.view)] ++ be 4 f.detail

/-- The count of a roller's state: 0 none, 1 match, 2 loss, 3 relock, 4 settle (R95, R187). The settle count
runs once the ramp-ended mark is set (R86). -/
def countKind (r : CouplingRoller) : Nat :=
  match r.state with
  | .matching => 1
  | .locked => 2
  | .lostLock => 3
  | .releasing => if r.rampEnded then 4 else 0
  | .detached | .pendingAttach | .releasedUnack => 0

/-- The timer of a roller's state: 0 none, 1 attach, 2 loss, 3 release (R95, R187). -/
def timerKind (r : CouplingRoller) : Nat :=
  match r.state with
  | .pendingAttach => 1
  | .lostLock => 2
  | .releasing => 3
  | .detached | .matching | .locked | .releasedUnack => 0

/-- The channel's part of the reply, 77 bytes. -/
def channelBytes (c : Channel) : List Byte :=
  rollerRecBytes c.settings ++ be 4 c.count.toNat ++ be 4 c.pos.um.toNat ++ be 4 c.vMeas ++ be 4 c.force ++
  [byte c.age, flag c.limited] ++ be 3 c.used.raw ++ [byte (statusCode c.used.status)] ++ be 4 c.demand ++
  [flag c.enable, flag c.saturated, (c.frame.map (·.seq)).getD 0#8, byte (couplingCode c.view),
    flag c.faultHold, flag c.indexArmed, flag c.zeroing.isSome, byte ((c.zeroing.map (·.count)).getD 0)] ++
  faultRecordBytes c.lastFault

/-- The coupling controller's part (R95), 16 bytes. -/
def couplingRollerBytes (r : CouplingRoller) : List Byte :=
  [byte (couplingCode r.state), byte (countKind r)] ++ be 2 (if countKind r = 0 then 0 else r.count) ++
  [byte (timerKind r)] ++ be 2 (if timerKind r = 0 then 0 else r.timer) ++
  [flag r.rampEnded, flag r.permitView, byte (reasonCode r.release.first),
    byte ((r.release.subsequent.map reasonCode).getD 0), flag r.release.notSettled] ++ be 4 r.release.time.toNat

/-- Target formation's part (R70), 20 bytes. -/
def targetBytes (select : Nat) (t : TargetRoller) : List Byte :=
  [byte select] ++ be 4 t.pos.um.toNat ++ be 4 t.nudge ++ be 2 t.record.refSeq.toNat ++ be 4 t.record.ratio ++
  [flag t.record.advanced] ++ be 4 t.record.nudge

/-- READ ROLLER (R36). -/
def takeReadRoller (roller : Nat) (s : State) : Taking :=
  match rollerOfNum roller with
  | none => .refused .range
  | some k =>
    doneWith s 0
      (channelBytes (s.channel.get k) ++ couplingRollerBytes (s.coupling.roller.get k) ++
        targetBytes (s.target.settings.selects.get k) (s.target.roller.get k))

end Sys2Proof.Machine
end

