-- ==== Sys2Proof/Machine/Channel.lean ====
section
/-! DEFINITION. The roller channels (chapter 2): their commands, the encoder, the force reading, the
interval of R52 stage by stage, the index check, and the coupling changes they take. -/

namespace Sys2Proof.Machine

/-! ## Commands -/

/-- SET ROLLER, GAINS form, once the roller number has passed (R34). -/
def setGains (k : Roller) (kp kv : Nat) (s : State) : Taking :=
  if gainsOk kp kv then
    done (onChannel k (fun c => { c with settings := { c.settings with kp := kp, kv := kv } }) s) 0
  else .refused .range

/-- SET ROLLER, FULL form, once the roller number has passed (R34): ranges, then the coupling state, then
a zeroing in flight. All fields are replaced and the index check restarts (R35). -/
def setFull (k : Roller) (f : RollerFields) (s : State) : Taking :=
  match rollerOfFields f with
  | none => .refused .range
  | some r =>
    if resting (s.coupling.roller.get k).state = false then .refused .state
    else if zeroingInFlight s k then .refused .busy
    else done (onChannel k (fun c => { c with settings := r, indexArmed := false }) s) 0

/-- SET ROLLER (R34). A defined form arrives with the length of that form (R187), so the form that does
not match its fields is an undefined one. -/
def takeSetRoller (roller form : Nat) (body : RollerBody) (s : State) : Taking :=
  match rollerOfNum roller, form, body with
  | some k, 0, .gains kp kv => setGains k kp kv s
  | some k, 1, .full f => setFull k f s
  | _, _, _ => .refused .range

/-- ZERO FORCE (R44). -/
def takeZeroForce (roller : Nat) (s : State) : Taking :=
  match rollerOfNum roller with
  | none => .refused .range
  | some k =>
    if resting (s.coupling.roller.get k).state = false then .refused .state
    else if zeroingInFlight s k then .refused .busy
    else done (onChannel k (fun c => { c with zeroing := some ⟨0, 0⟩ }) s) 0

/-! ## Encoder (R37) -/

/-- The level pair after one step of the forward sequence 00, 10, 11, 01, 00. -/
def forwardNext : Bool × Bool → Bool × Bool
  | (false, false) => (true, false)
  | (true, false) => (true, true)
  | (true, true) => (false, true)
  | (false, true) => (false, false)

/-- The signed 32-bit count one step on: up for a forward step with NORMAL or a reverse step with
INVERTED; it wraps. -/
def stepCount (d : Direction) (forward : Bool) (n : BitVec 32) : BitVec 32 :=
  if forward = decide (d = .normal) then n + 1 else n - 1

/-- The channel samples the two phases (R37): both changed is an illegal transition, which leaves the count;
one changed is a count step; none changed is no transition. -/
def encoderSample (k : Roller) (p1 p2 : Bool) (s : State) : State :=
  let c := s.channel.get k
  let levels := onChannel k (fun c => { c with phase1 := p1, phase2 := p2 })
  if c.phase1 ≠ p1 ∧ c.phase2 ≠ p2 then
    countIllegal k (onChannel k (fun c => { c with illegal := satInc 255 c.illegal }) (levels s))
  else if c.phase1 = p1 ∧ c.phase2 = p2 then s
  else
    let forward := decide (forwardNext (c.phase1, c.phase2) = (p1, p2))
    onChannel k (fun c => { c with count := stepCount c.direction forward c.count }) (levels s)

/-! ## Force readings (R40, R188) -/

/-- The check byte is good when the five bytes sum to 0 modulo 256 (R188). -/
def checkGood (bytes : List Byte) : Bool := decide (bytes.foldl (· + ·) 0#8 = 0#8)

/-- A complete reading is held when its check is good and dropped otherwise (R188). -/
def completeReading (bytes : List Byte) (c : Channel) : Channel :=
  if checkGood bytes then
    { c with rxBytes := [], held := some ⟨fieldS 0 3 bytes, statusOfCode (fieldU 3 1 bytes)⟩ }
  else { c with rxBytes := [] }

/-- One byte from the force converter: more than 100 µs after the byte before it, it starts a new reading;
the fifth byte completes the reading (R188). A byte that follows a complete reading within 100 µs starts the next one:
DESIGN CHOICE, see assumption 38. -/
def converterByte (c : Channel) (x : Nat × Byte) : Channel :=
  let bytes := (if 100 < x.1 then [] else c.rxBytes) ++ [x.2]
  if bytes.length = 5 then completeReading bytes c else { c with rxBytes := bytes }

/-- The bytes of a reading, in order. -/
def converterBytes (k : Roller) (bytes : List (Nat × Byte)) : State → State :=
  onChannel k fun c => bytes.foldl converterByte c

/-! ## The stages of one interval (R52) -/

/-- Stage 1: the count step and the measured position (R38). The direction of the record takes effect at
this expiry (R35). -/
def stagePosition (c : Channel) : Channel :=
  let increment := (c.count - c.prevCount).toInt * (c.settings.scale : Int)
  let window := c.window.push increment
  { c with
    direction := c.settings.direction, prevCount := c.count, pos := c.pos.advance increment
    window := window }

/-- Sum of the speed window. -/
def windowSum (w : Eight Int) : Int := w.p1 + w.p2 + w.p3 + w.p4 + w.p5 + w.p6 + w.p7 + w.p8

/-- Stage 2: the measured speed (R39). -/
def stageSpeed (c : Channel) : Channel := { c with vMeas := rdiv (windowSum c.window) 524288 }

/-- The reading an expiry takes: the one held, else NONE with the raw value last used (R40). -/
def readingTaken (c : Channel) : Reading := c.held.getD ⟨c.used.raw, .none⟩

/-- The force of a raw value before its clamp (R41). -/
def rawForce (r : RollerRec) (raw : Int) : Int := rdiv ((raw - r.zero) * (r.gain : Int)) 65536

/-- Stage 3: the force formed from a VALID reading, or held (R41, R42). -/
def stageForce (c : Channel) : Channel :=
  let r := readingTaken c
  let c := { c with held := none, used := r }
  match r.status with
  | .valid =>
    let f := rawForce c.settings r.raw
    { c with force := clampAbs 200000 f, limited := decide (clampAbs 200000 f ≠ f), age := 0 }
  | .overRange | .none => { c with age := satInc 255 c.age }

/-- Stage 3: the reading of this expiry taken into a zeroing in flight (R45, R46). The ZERO DONE report, if
the zeroing ends, carries the Z that holds after it. -/
def zeroStep (k : Roller) (c : Channel) : Channel × Option NoticeBody :=
  match c.zeroing with
  | none => (c, none)
  | some z =>
    match c.used.status with
    | .valid =>
      let sum := z.sum + c.used.raw
      if 128 ≤ z.count + 1 then
        let zero := rdiv sum 128
        ({ c with zeroing := none, settings := { c.settings with zero := zero } },
          some (.zeroDone k true zero (z.count + 1) .valid))
      else ({ c with zeroing := some ⟨sum, z.count + 1⟩ }, none)
    | .overRange | .none =>
      ({ c with zeroing := none }, some (.zeroDone k false c.settings.zero z.count c.used.status))

/-- Stages 1 to 3 of the channel. -/
def stageMeasure (k : Roller) (s : State) : State :=
  let z := zeroStep k (stageForce (stageSpeed (stagePosition (s.channel.get k))))
  let s' := onChannel k (fun _ => z.1) s
  match z.2 with
  | none => s'
  | some b => reportPlain (.channel k) b s'

/-- The start of a fault episode: its counter and the last-fault record (R57). -/
def beginEpisode (k : Roller) (kind : FaultKind) (detail : Int) (s : State) : State :=
  countFault k kind
    (onChannel k
      (fun c => { c with lastFault := some { kind := kind, time := s.timer.time, view := c.view, detail := detail } }) s)

/-- The hand-off of a raised fault: in every view but DETACHED and RELEASED_UNACK the fault goes to the
coupling controller and the fault hold is set (R57). -/
def handOff (k : Roller) (kind : FaultKind) (s : State) : State :=
  if resting (s.channel.get k).view then s
  else sendFault k kind (onChannel k (fun c => { c with faultHold := true }) s)

/-- A condition present at this expiry: a new episode when it was absent at the last expiry, and a hand-off
at every expiry (R57). -/
def raiseCondition (k : Roller) (kind : FaultKind) (present was : Bool) (detail : Int) (s : State) : State :=
  if present then handOff k kind (if was then s else beginEpisode k kind detail s) else s

/-- The ENCODER condition: four or more illegal transitions in the interval (R53). -/
def encoderCondition (c : Channel) : Bool := decide (4 ≤ c.illegal)

/-- The OVERSPEED condition (R54). -/
def overspeedCondition (c : Channel) : Bool := decide ((c.settings.overspeed : Int) < mag c.vMeas)

/-- The FORCE condition: force age 4 or more (R55). -/
def forceCondition (c : Channel) : Bool := decide (4 ≤ c.age)

/-- Stage 4: the three conditions, in the order of R52; then the illegal-transition count starts anew. -/
def stageFaults (k : Roller) (s : State) : State :=
  let c := s.channel.get k
  let s1 := raiseCondition k .encoder (encoderCondition c) c.encoderPresent c.illegal s
  let s2 := raiseCondition k .overspeed (overspeedCondition c) c.overspeedPresent c.vMeas s1
  let s3 := raiseCondition k .force (forceCondition c) c.forcePresent (statusCode c.used.status) s2
  onChannel k
    (fun x =>
      { x with
        illegal := 0, encoderPresent := encoderCondition c, overspeedPresent := overspeedCondition c
        forcePresent := forceCondition c }) s3

/-- The force record of the channel as it stands, with this reference sequence (R43). -/
def forceRecordOf (c : Channel) (seq : BitVec 16) : ForceRecord :=
  { force := c.force, age := c.age, limited := c.limited, contributing := attached c.view, refSeq := seq }

/-- Stage 5: the force record (R43). -/
def stageForceRecord (k : Roller) (s : State) : State :=
  onChannel k (fun c => { c with forceRecord := forceRecordOf c s.shaft.record.seq }) s

/-- Speed error e_v (R48). -/
def speedError (c : Channel) (t : TargetRecord) : Int := toMm t.speed - c.vMeas

/-- Position error e_x: in the mode TRACKING the channel takes its own measured position (R48, R65, R67). -/
def positionError (c : Channel) (t : TargetRecord) : Int :=
  Pos.diff (if t.advanced then t.pos else c.pos) c.pos

/-- The feed-forward term (R48). -/
def feedForward (c : Channel) (r : RefRecord) : Int := rdiv ((c.settings.mass : Int) * 10 * r.dv) 65536

/-- The demand of an attached view before its clamp (R49): MATCHING has no position term. -/
def demandLaw (c : Channel) (r : RefRecord) (t : TargetRecord) : Int :=
  feedForward c r - c.force +
    (if positionHeld c.view then rdiv ((c.settings.kp : Int) * positionError c t) 1000 else 0) +
    (c.settings.kv : Int) * speedError c t

/-- One expiry of the release ramp (R50): demand, enable, and the ramp after it. -/
def rampStep (r : Ramp) : Int × Bool × Ramp :=
  match r.remaining with
  | 0 => (0, false, r)
  | n + 1 =>
    if n = 0 then (0, false, { r with remaining := 0 })
    else (rdiv (r.entry * (n : Int)) (r.length : Int), true, { r with remaining := n })

/-- The ramp ends at this expiry (R50). -/
def rampEnding (c : Channel) : Bool :=
  decide (c.view = .releasing) && !c.faultHold &&
    (match c.ramp with
      | some r => decide (r.remaining = 1)
      | none => false)

/-- Stage 6 on the channel: demand, enable and saturated flag by the law of the view; 0 with enable 0 while
the fault hold is set (R49 to R51). -/
def demandOf (c : Channel) (r : RefRecord) (t : TargetRecord) : Channel :=
  if c.faultHold || undriven c.view then { c with demand := 0, enable := false, saturated := false }
  else if c.view = .releasing then
    match c.ramp with
    | none => { c with demand := 0, enable := false, saturated := false }
    | some ramp =>
      let x := rampStep ramp
      { c with demand := x.1, enable := x.2.1, ramp := some x.2.2, saturated := false }
  else
    let d := demandLaw c r t
    let clamped := clampAbs c.settings.dMax d
    { c with demand := clamped, enable := true, saturated := decide (clamped ≠ d) }

/-- Stage 6: the demand, the saturated intervals counter, and the ramp end reported to the coupling
controller (R49 to R51). -/
def stageDemand (k : Roller) (s : State) : State :=
  let c := s.channel.get k
  let d := demandOf c s.shaft.record (s.target.roller.get k).record
  let s1 := onChannel k (fun _ => d) s
  let s2 := if d.saturated then countSaturated k s1 else s1
  if rampEnding c then sendChannelMessage k .rampEnd s2 else s2

/-- Stage 7: the demand frame on the drive link (R52). -/
def stageFrame (k : Roller) : State → State :=
  onChannel k fun c =>
    { c with
      frame := some { seq := c.nextFrame, enable := c.enable, demand := c.demand }
      nextFrame := c.nextFrame + 1 }

/-- The measurement record of the channel as it stands (R52). -/
def measRecordOf (c : Channel) (t : TargetRecord) : MeasRecord :=
  { pos := c.pos, vMeas := c.vMeas, ev := speedError c t, ex := positionError c t
    demand := c.demand, enable := c.enable, saturated := c.saturated }

/-- Stage 8: the measurement record, handed to the coupling controller as it is published (R52, R74). -/
def stageMeasurement (k : Roller) (s : State) : State :=
  let m := measRecordOf (s.channel.get k) (s.target.roller.get k).record
  sendChannelMessage k (.measurement m) (onChannel k (fun c => { c with meas := m }) s)

/-- The interval expiry of channel `k`, in the stages of R52. -/
def channelExpiry (k : Roller) (s : State) : State :=
  stageMeasurement k (stageFrame k (stageDemand k (stageForceRecord k (stageFaults k (stageMeasure k s)))))

/-- A VALID reading completes a zeroing at this expiry (R45). -/
def zeroingEnds (c : Channel) : Bool :=
  match c.zeroing with
  | none => false
  | some z => decide (128 ≤ z.count + 1) && decide ((readingTaken c).status = .valid)

/-- The force age reaches 4 at this expiry (R55). -/
def forceAgeReaches (c : Channel) : Bool := decide (c.age = 3) && decide ((readingTaken c).status ≠ .valid)

/-- The release ramp ends at this expiry of channel `k`: its conditions are tested first, since a fault of
the same expiry holds the ramp (R50, R57). -/
def rampEndsNow (k : Roller) (s : State) : Bool :=
  rampEnding ((stageFaults k (stageMeasure k s)).channel.get k)

/-! ## Index check (R56) -/

/-- The index edge passes: a full revolution either way, or the same mark crossed again. -/
def indexPasses (r : RollerRec) (delta : Int) : Bool :=
  decide (mag (mag delta - (r.countsPerRev : Int)) ≤ r.indexTol) || decide (mag delta ≤ r.indexTol)

/-- A qualified index edge (R56): the first after arming is taken as the reference; any later edge is tested
and becomes the new reference; nothing with counts per revolution 0. -/
def indexEdgeTaken (k : Roller) (s : State) : State :=
  let c := s.channel.get k
  if c.settings.countsPerRev = 0 then s
  else
    let s' := onChannel k (fun c => { c with indexArmed := true, indexRef := c.count }) s
    let delta := (c.count - c.indexRef).toInt
    if c.indexArmed && !indexPasses c.settings delta then
      handOff k .index (beginEpisode k .index delta s')
    else s'

/-- The next index edge of channel `k`, if one waits. -/
def takeIndexEdge (k : Roller) (s : State) : State :=
  match s.mail.indexEdge.get k with
  | 0 => s
  | n + 1 => indexEdgeTaken k (onMail (fun m => { m with indexEdge := m.indexEdge.set k n }) s)

/-! ## Coupling changes (R47) -/

/-- The channel takes a coupling change (R47): view set, fault hold cleared, force record republished, and
the new view acted on. A ramp not ended is stopped by any change of view (R50). In a driven view the saturated flag
held stays until the next expiry: R47 lists its clearing for the undriven views only, and R51 has it clear in RELEASING
without saying from when. DESIGN CHOICE, see assumption 24. -/
def channelTakesChange (ramp : Nat) (c : Channel) (new : CouplingState) : Channel :=
  let c :=
    { c with
      view := new, faultHold := false
      forceRecord := { c.forceRecord with contributing := attached new } }
  if undriven new then { c with demand := 0, enable := false, saturated := false, ramp := none }
  else if new = .releasing then { c with ramp := some ⟨c.demand, ramp, ramp⟩ }
  else { c with ramp := none }

/-- The next coupling change event of channel `k`, if one waits. -/
def takeChannelChange (k : Roller) (s : State) : State :=
  match s.mail.changeToChannel.get k with
  | [] => s
  | e :: rest =>
    onChannel k (fun c => channelTakesChange s.coupling.params.ramp c e.new)
      (onMail (fun m => { m with changeToChannel := m.changeToChannel.set k rest }) s)

/-- The channel takes its section of the hand-over: the record is replaced and the index check restarts
(R35, R58). -/
def channelHandover (k : Roller) (r : RollerRec) : State → State :=
  onChannel k fun c => { c with settings := r, indexArmed := false }

end Sys2Proof.Machine
end

