-- ==== Sys2Proof/Machine/Coupling.lean ====
section
/-! DEFINITION. The coupling controller (chapter 4): its commands, the transitions of a roller, the counts
and timers, the shaft skew supervisor, and the events it takes. -/

namespace Sys2Proof.Machine

/-! ## Transitions -/

/-- A roller enters a coupling state (R73, R77): count and timer start at 0, the ramp-ended mark is clear,
and the coupling change event goes to its five receivers. -/
def moveRoller (k : Roller) (new : CouplingState) (reason : Reason) (s : State) : State :=
  sendChange k
    { previous := (s.coupling.roller.get k).state, new := new, reason := reason, time := s.timer.time }
    (onCoupling k (fun r => { r with state := new, count := 0, timer := 0, rampEnded := false }) s)

/-- A release begins: the release record is replaced (R93). -/
def beginRelease (k : Roller) (cause : Reason) (s : State) : State :=
  onCoupling k
    (fun r =>
      { r with
        release := { first := cause, subsequent := none, notSettled := false, time := s.timer.time } }) s

/-- A release event written as the subsequent cause (R94). -/
def setSubsequent (k : Roller) (cause : Reason) : State → State :=
  onCoupling k fun r => { r with release := { r.release with subsequent := some cause } }

/-- A roller begins a release and enters RELEASING (R83, R85). -/
def startReleasing (k : Roller) (cause : Reason) (s : State) : State :=
  moveRoller k .releasing cause (beginRelease k cause s)

/-- A roller not RELEASED_UNACK becomes RELEASED_UNACK at once (R79, R85, R88 to R91): from RELEASING the
cause becomes the subsequent cause, from any other state a release begins. -/
def releaseAtOnce (k : Roller) (cause : Reason) (s : State) : State :=
  moveRoller k .releasedUnack cause
    (if (s.coupling.roller.get k).state = .releasing then setSubsequent k cause s
     else beginRelease k cause s)

/-! ## Commands -/

/-- ATTACH (R78). -/
def takeAttach (roller : Nat) (s : State) : Taking :=
  match rollerOfNum roller with
  | none => .refused .range
  | some k =>
    match (s.coupling.roller.get k).state with
    | .releasedUnack | .releasing => .refused .state
    | .pendingAttach | .matching | .locked | .lostLock => done s 1
    | .detached =>
      if (s.channel.get k).settings.scale = 0 then .refused .unconfigured
      else if s.coupling.runPermitView = false then .refused .permit
      else if zeroingInFlight s k then .refused .busy
      else done (moveRoller k .pendingAttach .attach s) 0

/-- The rollers a number 0 … 4 concerns: 0 for all four (R85, R90). -/
def rollersOfNum : Nat → Option (List Roller)
  | 0 => some Roller.all
  | n => (rollerOfNum n).map ([·])

/-- RELEASE on one roller (R85). -/
def releaseRoller (k : Roller) (s : State) : State :=
  match (s.coupling.roller.get k).state with
  | .pendingAttach => releaseAtOnce k .command s
  | .matching | .locked | .lostLock => startReleasing k .command s
  | .detached | .releasing | .releasedUnack => s

/-- RELEASE changes this state (R85). -/
def releaseActs : CouplingState → Bool
  | .pendingAttach | .matching | .locked | .lostLock => true
  | .detached | .releasing | .releasedUnack => false

/-- RELEASE (R85): class 0 when at least one roller changed state. -/
def takeRelease (roller : Nat) (s : State) : Taking :=
  match rollersOfNum roller with
  | none => .refused .range
  | some ks =>
    done (ks.foldl (fun s k => releaseRoller k s) s)
      (if ks.any fun k => releaseActs (s.coupling.roller.get k).state then 0 else 1)

/-- ISOLATE on one roller (R90, R94). -/
def isolateRoller (k : Roller) (s : State) : State :=
  if (s.coupling.roller.get k).state = .releasedUnack then setSubsequent k .isolated s
  else releaseAtOnce k .isolated s

/-- ISOLATE (R90). -/
def takeIsolate (roller : Nat) (s : State) : Taking :=
  match rollersOfNum roller with
  | none => .refused .range
  | some ks =>
    done (ks.foldl (fun s k => isolateRoller k s) s)
      (if ks.any fun k => decide ((s.coupling.roller.get k).state ≠ .releasedUnack) then 0 else 1)

/-- ACKNOWLEDGE RELEASE (R92). -/
def takeAcknowledge (roller : Nat) (s : State) : Taking :=
  match rollerOfNum roller with
  | none => .refused .range
  | some k =>
    if (s.coupling.roller.get k).state = .releasedUnack then
      done (moveRoller k .detached .acknowledged s) 0
    else .refused .state

/-- SET COUPLING (R76): with no parameter a read; with thirteen, all replaced or RANGE. -/
def takeSetCoupling (p : Option CouplingParams) (s : State) : Taking :=
  match p with
  | none => doneWith s 0 (couplingBytes s.coupling.params)
  | some p =>
    if couplingOk p then
      doneWith { s with coupling := { s.coupling with params := p } } 0 (couplingBytes p)
    else .refused .range

/-! ## Measurement arrival (R74, R81 to R83, R86) -/

/-- A count one test on: increased when the test is met, else 0. -/
def countOn (n : Nat) (met : Bool) : Nat := if met then n + 1 else 0

/-- The count test of the roller's state on a measurement record. The thresholds are "has reached or
passed" (R76). -/
def countTest (k : Roller) (m : MeasRecord) (s : State) : State :=
  let r := s.coupling.roller.get k
  let p := s.coupling.params
  let keep (n : Nat) : State := onCoupling k (fun r => { r with count := n }) s
  match r.state with
  | .matching =>
    let n := countOn r.count (decide (mag m.ev ≤ p.vWin))
    if p.nMatch ≤ n then moveRoller k .locked .matched s else keep n
  | .locked =>
    let n := countOn r.count (decide ((p.xWin : Int) < mag m.ex))
    if p.nLoss ≤ n then countLockLoss k (moveRoller k .lostLock .lockLoss s) else keep n
  | .lostLock =>
    let n := countOn r.count (decide (mag m.ex ≤ p.xWin))
    if p.nRelock ≤ n then moveRoller k .locked .relocked s else keep n
  | .releasing =>
    if r.rampEnded then
      let n := countOn r.count (decide (mag m.vMeas ≤ p.vStill))
      if p.nSettle ≤ n then moveRoller k .releasedUnack .settled s else keep n
    else s
  | .detached | .pendingAttach | .releasedUnack => s

/-- A measurement record arrives: it is kept as the latest, and the count test is run (R74). -/
def measurementArrives (k : Roller) (m : MeasRecord) (s : State) : State :=
  countTest k m (onCoupling k (fun r => { r with meas := m }) s)

/-- The message of channel `k` next in order, if it is a measurement record: a ramp end before it must be
taken first (R74, R86). -/
def takeMeasurement (k : Roller) (s : State) : State :=
  match s.mail.fromChannel.get k with
  | .measurement m :: rest =>
    measurementArrives k m (onMail (fun x => { x with fromChannel := x.fromChannel.set k rest }) s)
  | _ => s

/-- A ramp end (R86): in RELEASING the mark is set and the settle count starts at 0; elsewhere ignored. -/
def rampEndArrives (k : Roller) (s : State) : State :=
  if (s.coupling.roller.get k).state = .releasing then
    onCoupling k (fun r => { r with rampEnded := true, count := 0 }) s
  else s

/-- The message of channel `k` next in order, if it is a ramp end. -/
def takeRampEnd (k : Roller) (s : State) : State :=
  match s.mail.fromChannel.get k with
  | .rampEnd :: rest => rampEndArrives k (onMail (fun x => { x with fromChannel := x.fromChannel.set k rest }) s)
  | _ => s

/-! ## Interval expiry (R74, R79, R83, R87, R96, R97) -/

/-- The timer test of one roller: PENDING_ATTACH, LOST_LOCK and RELEASING have a timer. -/
def timerTest (k : Roller) (s : State) : State :=
  let r := s.coupling.roller.get k
  let p := s.coupling.params
  let keep : State := onCoupling k (fun r => { r with timer := r.timer + 1 }) s
  match r.state with
  | .pendingAttach =>
    if s.coupling.runPermitView && r.permitView then moveRoller k .matching .permits s
    else if p.tAttach ≤ r.timer + 1 then releaseAtOnce k .attachTimeout s
    else keep
  | .lostLock => if p.tLoss ≤ r.timer + 1 then startReleasing k .lockTimeout s else keep
  | .releasing =>
    if p.tRelease ≤ r.timer + 1 then
      moveRoller k .releasedUnack .notSettled
        (onCoupling k (fun r => { r with release := { r.release with notSettled := true } }) s)
    else keep
  | .detached | .matching | .locked | .releasedUnack => s

/-- The rollers the skew test looks at, with their latest e_x, in roller order (R96). -/
def skewRollers (c : Coupling) : List (Roller × Int) :=
  (Roller.all.filter fun k => positionHeld (c.roller.get k).state).map fun k => (k, (c.roller.get k).meas.ex)

/-- The roller of largest error, the lower-numbered where two hold the same (R97). -/
def largestOf (x : Roller × Int) (xs : List (Roller × Int)) : Roller × Int :=
  xs.foldl (fun best y => if best.2 < y.2 then y else best) x

/-- The roller of smallest error, the lower-numbered where two hold the same (R97). -/
def smallestOf (x : Roller × Int) (xs : List (Roller × Int)) : Roller × Int :=
  xs.foldl (fun best y => if y.2 < best.2 then y else best) x

/-- No skew above the limit: count 0, mark cleared (R96). -/
def skewClear (s : State) : State :=
  { s with coupling := { s.coupling with skewCount := 0, skewRaised := false } }

/-- The shaft skew test (R96, R97). -/
def skewTest (s : State) : State :=
  match skewRollers s.coupling with
  | [] | [_] => skewClear s
  | x :: xs =>
    let hi := largestOf x xs
    let lo := smallestOf x xs
    let skew := hi.2 - lo.2
    if (s.coupling.params.skewLimit : Int) < skew then
      let n := satInc 65535 s.coupling.skewCount
      let s' := { s with coupling := { s.coupling with skewCount := n } }
      if s.coupling.params.skewFlywheel ≤ n ∧ s.coupling.skewRaised = false then
        reportStamped .coupling (.skew skew hi.1 lo.1 hi.2 lo.2)
          (sendSkewFault { s' with coupling := { s'.coupling with skewRaised := true } })
      else s'
    else skewClear s

/-- The interval expiry of the coupling controller (R74): the skew test looks at the states as the expiry
finds them (R96, 4.10.3), then the timers of the four rollers advance. -/
def couplingExpiry (s : State) : State :=
  Roller.all.foldl (fun s k => timerTest k s) (skewTest s)

/-! ## What an expiry or an arrival brings about -/

/-- The attach timer reaches T_att at this expiry, a permit view being absent (R79). -/
def attachTimesOut (k : Roller) (s : State) : Bool :=
  let r := s.coupling.roller.get k
  decide (r.state = .pendingAttach) && !(s.coupling.runPermitView && r.permitView) &&
    decide (s.coupling.params.tAttach ≤ r.timer + 1)

/-- The loss timer reaches T_loss at this expiry (R83). -/
def lockTimesOut (k : Roller) (s : State) : Bool :=
  let r := s.coupling.roller.get k
  decide (r.state = .lostLock) && decide (s.coupling.params.tLoss ≤ r.timer + 1)

/-- The release timer reaches T_rel at this expiry (R87). -/
def releaseTimesOut (k : Roller) (s : State) : Bool :=
  let r := s.coupling.roller.get k
  decide (r.state = .releasing) && decide (s.coupling.params.tRelease ≤ r.timer + 1)

/-- The shaft skew: the largest less the smallest e_x of the rollers looked at, with two or more (R96). -/
def skewOf (c : Coupling) : Option Int :=
  match skewRollers c with
  | [] | [_] => none
  | x :: xs => some ((largestOf x xs).2 - (smallestOf x xs).2)

/-- The skew count reaches the skew flywheel at this expiry, the fault not yet raised (R97). -/
def skewFires (c : Coupling) : Bool :=
  match skewOf c with
  | none => false
  | some skew =>
    decide ((c.params.skewLimit : Int) < skew) &&
      decide (c.params.skewFlywheel ≤ satInc 65535 c.skewCount) && !c.skewRaised

/-- The count of the roller's state reaches its threshold with this measurement (R81 to R83, R86). -/
def countReaches (p : CouplingParams) (r : CouplingRoller) (m : MeasRecord) : Bool :=
  match r.state with
  | .matching => decide (p.nMatch ≤ countOn r.count (decide (mag m.ev ≤ p.vWin)))
  | .locked => decide (p.nLoss ≤ countOn r.count (decide ((p.xWin : Int) < mag m.ex)))
  | .lostLock => decide (p.nRelock ≤ countOn r.count (decide (mag m.ex ≤ p.xWin)))
  | .releasing => r.rampEnded && decide (p.nSettle ≤ countOn r.count (decide (mag m.vMeas ≤ p.vStill)))
  | .detached | .pendingAttach | .releasedUnack => false

/-- The measurement next in order of channel `k` completes the count of this state. -/
def nextCountReaches (k : Roller) (state : CouplingState) (s : State) : Bool :=
  decide ((s.coupling.roller.get k).state = state) &&
    (match s.mail.fromChannel.get k with
      | .measurement m :: _ => countReaches s.coupling.params (s.coupling.roller.get k) m
      | _ => false)

/-! ## Faults, permits and emergency stop (R88, R89, R91) -/

/-- A fault kind as a release cause (4.7). -/
def faultReason : FaultKind → Reason
  | .encoder => .encoder
  | .overspeed => .overspeed
  | .index => .index
  | .force => .force

/-- A fault handed off by channel `k` (R88). -/
def faultArrives (k : Roller) (kind : FaultKind) (s : State) : State :=
  if resting (s.coupling.roller.get k).state then s else releaseAtOnce k (faultReason kind) s

/-- The next fault handed off by channel `k`, if one waits. -/
def takeFault (k : Roller) (s : State) : State :=
  match s.mail.fault.get k with
  | [] => s
  | f :: rest => faultArrives k f (onMail (fun m => { m with fault := m.fault.set k rest }) s)

/-- Emergency stop on one roller (R91, R94). -/
def estopRoller (k : Roller) (s : State) : State :=
  if (s.coupling.roller.get k).state = .releasedUnack then setSubsequent k .estop s
  else releaseAtOnce k .estop s

/-- The coupling controller takes a run permit event (R74, R84, R91). -/
def couplingTakesPermit (e : RunPermitEvent) (s : State) : State :=
  let s := { s with coupling := { s.coupling with runPermitView := e.present } }
  if e.estopMark then Roller.all.foldl (fun s k => estopRoller k s) s else s

/-- The next run permit event, if one waits. -/
def takeCouplingPermit (s : State) : State :=
  match s.mail.permitToCoupling with
  | [] => s
  | e :: rest => couplingTakesPermit e (onMail (fun m => { m with permitToCoupling := rest }) s)

/-- Loss of a roller permit (R89): from an attached state or RELEASING the roller is released at once. -/
def permitLost (k : Roller) (s : State) : State :=
  match (s.coupling.roller.get k).state with
  | .matching | .locked | .lostLock | .releasing => releaseAtOnce k .rollerPermit s
  | .detached | .pendingAttach | .releasedUnack => s

/-- The coupling controller takes a roller permit event (R74, R89). -/
def rollerPermitArrives (k : Roller) (e : RollerPermitEvent) (s : State) : State :=
  let s := onCoupling k (fun r => { r with permitView := e.present }) s
  if e.present then s else permitLost k s

/-- The next roller permit event of roller `k`, if one waits. -/
def takeRollerPermit (k : Roller) (s : State) : State :=
  match s.mail.rollerPermit.get k with
  | [] => s
  | e :: rest =>
    rollerPermitArrives k e (onMail (fun m => { m with rollerPermit := m.rollerPermit.set k rest }) s)

/-- The coupling controller takes its section of the hand-over (R75). -/
def couplingHandover (p : CouplingParams) (s : State) : State :=
  { s with coupling := { s.coupling with params := p } }

end Sys2Proof.Machine
end

