-- ==== Sys2Proof/Machine/LineUnit.lean ====
section
/-! DEFINITION. The line unit (chapter 6): qualification, routing, logical inputs and permits, logical
outputs and driven levels, output latches, and its commands. -/

namespace Sys2Proof.Machine

def onLine (f : LineUnit → LineUnit) (s : State) : State := { s with line := f s.line }

/-! ## Qualification (R123) -/

/-- One sample of a line, with its qualification count (R123). -/
def qualify (count : Nat) (q : Qualifier) (level : Bool) : Qualifier :=
  match q.value with
  | none =>
    let run := if q.run = 0 ∨ q.candidate ≠ some level then 1 else q.run + 1
    if count ≤ run then ⟨some level, none, 0⟩ else ⟨none, some level, run⟩
  | some v =>
    if level = v then ⟨some v, none, 0⟩
    else if count ≤ q.run + 1 then ⟨some level, none, 0⟩
    else ⟨some v, some level, q.run + 1⟩

/-- The eight lines of a group sampled (R122, R124). -/
def qualifyGroup (g : Group) (levels : Eight Bool) (u : LineUnit) : LineUnit :=
  { u with
    qualifiers :=
      u.qualifiers.set g
        (.tabulate fun p =>
          qualify ((u.settings.counts.get g).get p) ((u.qualifiers.get g).get p) (levels.get p)) }

/-! ## Logical inputs (R126) -/

def getInput (i : LogInputs) : LogIn → Bool
  | .estopChain => i.estopChain
  | .doorClosed => i.doorClosed
  | .restraintOk => i.restraintOk
  | .liftDown => i.liftDown
  | .brakeReleased k => i.brakeReleased.get k
  | .driveReady k => i.driveReady.get k
  | .index k => i.index.get k
  | .extMark => i.extMark

def setInput (i : LogInputs) (x : LogIn) (v : Bool) : LogInputs :=
  match x with
  | .estopChain => { i with estopChain := v }
  | .doorClosed => { i with doorClosed := v }
  | .restraintOk => { i with restraintOk := v }
  | .liftDown => { i with liftDown := v }
  | .brakeReleased k => { i with brakeReleased := i.brakeReleased.set k v }
  | .driveReady k => { i with driveReady := i.driveReady.set k v }
  | .index k => { i with index := i.index.set k v }
  | .extMark => { i with extMark := v }

/-- The lines whose function code is this logical input, in line order (R126). -/
def routedLines (u : LineUnit) (i : LogIn) : List LineId :=
  LineId.all.filter fun l => decide (u.settings.functions.line l = .input i)

/-- The qualified line a logical input is taken from, with its value: there is one only when exactly one
line holds the code and that line is qualified (R126). -/
def inputSource (u : LineUnit) (i : LogIn) : Option (LineId × Bool) :=
  match routedLines u i with
  | [l] => (u.qualifiers.line l).value.map fun v => (l, v)
  | _ => none

/-- The newly formed value of a logical input; its default is 0 (R126). -/
def formedInput (u : LineUnit) (i : LogIn) : Bool := ((inputSource u i).map (·.2)).getD false

/-- The logical inputs with these formed anew (R126). -/
def formInputs (u : LineUnit) (xs : List LogIn) : LogInputs :=
  xs.foldl (fun acc i => setInput acc i (formedInput u i)) u.inputs

/-! ## Permits, edges and reports (R127 to R131) -/

/-- The LINE CHANGE report of a changed input (R131). -/
def lineChangeReport (u : LineUnit) (routing : Bool) (i : LogIn) (s : State) : State :=
  reportStamped .line (.lineChange i (formedInput u i) ((inputSource u i).map (·.1)) routing) s

/-- The run permit event of a change: sent when the permit changed or ESTOP_CHAIN fell (R128, R129). -/
def runPermitEvent (old new : LogInputs) : State → State :=
  let fell := old.estopChain && !new.estopChain
  if runPermitOf old ≠ runPermitOf new ∨ fell then
    sendRunPermit
      { present := runPermitOf new, estopChain := new.estopChain, doorClosed := new.doorClosed
        restraintOk := new.restraintOk, liftDown := new.liftDown, estopMark := fell }
  else id

/-- The roller permit event of a change of permit `k` (R130). -/
def rollerPermitEvent (old new : LogInputs) (k : Roller) : State → State :=
  if rollerPermitOf old k ≠ rollerPermitOf new k then
    sendRollerPermit k
      { present := rollerPermitOf new k, brakeReleased := new.brakeReleased.get k
        driveReady := new.driveReady.get k }
  else id

/-- The edge of a rise of INDEX_k or EXT_MARK (R127). -/
def edgeEvent (old new : LogInputs) (i : LogIn) : State → State :=
  match i with
  | .index k => if old.index.get k = false ∧ new.index.get k = true then sendIndexEdge k else id
  | .extMark => if old.extMark = false ∧ new.extMark = true then sendMarkEdge else id
  | _ => id

/-- The logical inputs `xs` are formed anew with line unit `u`, the permits follow, and the events of R127 to
R131 are sent for the changes found. A rise from a routing change is no edge (R127). -/
def applyInputs (u : LineUnit) (xs : List LogIn) (routing : Bool) (s : State) : State :=
  let old := u.inputs
  let new := formInputs u xs
  let changed := allInputs.filter fun i => decide (getInput old i ≠ getInput new i)
  let s1 := onLine (fun _ =>
    { u with
      inputs := new, runPermit := runPermitOf new
      rollerPermit := Four.tabulate (rollerPermitOf new) }) s
  let s2 := runPermitEvent old new s1
  let s3 := Roller.all.foldl (fun s k => rollerPermitEvent old new k s) s2
  let s4 := if routing then s3 else changed.foldl (fun s i => edgeEvent old new i s) s3
  changed.foldl (fun s i => lineChangeReport u routing i s) s4

/-- The logical inputs some line of the group holds the code of (R126). -/
def groupInputs (u : LineUnit) (g : Group) : List LogIn :=
  allInputs.filter fun i => (u.settings.functions.get g).toList.any fun f => decide (f = .input i)

/-- A group sample event, taken whole (R124); the sample timer runs on with its period (R122). -/
def groupSampled (g : Group) (levels : Eight Bool) (s : State) : State :=
  let u := qualifyGroup g levels s.line
  let u := { u with timers := u.timers.set g (periodUs (u.settings.periods.get g)) }
  applyInputs u (groupInputs u g) false s

/-- The line becomes qualified, or changes its qualified value, at this sample (R123). -/
def qualifiesNow (l : LineId) (levels : Eight Bool) (u : LineUnit) : Bool :=
  decide (((qualifyGroup l.group levels u).qualifiers.line l).value ≠ (u.qualifiers.line l).value)

/-! ## Routing changes (R137) -/

/-- The logical input a function is the source of, if any. -/
def inputOf : Function → List LogIn
  | .input i => [i]
  | .generalIn | .generalOut | .output _ => []

/-- A routing change of one line (R137): the code is replaced, which drives the line anew, and the logical
inputs of the old and the new code are formed anew. -/
def routeChange (l : LineId) (f : Function) (s : State) : State :=
  let old := s.line.settings.functions.line l
  let u :=
    { s.line with
      settings := { s.line.settings with functions := s.line.settings.functions.setLine l f } }
  applyInputs u (inputOf old ++ inputOf f) true s

/-! ## Outputs (R132 to R135) -/

def getOutput (u : LineUnit) : LogOut → Bool
  | .brakeHold k => u.brakeHold.get k
  | .liftInhibit => u.liftInhibit
  | .runLamp => u.runLamp
  | .markOut => u.markOut

/-- The level the part puts on a line: nothing when it does not drive the line (R135). -/
def drivenLevel (u : LineUnit) (l : LineId) : Option Bool :=
  match u.settings.functions.line l with
  | .generalIn | .input _ => none
  | .generalOut => some (u.latches.line l)
  | .output o => some (getOutput u o)

/-- The line unit takes a coupling change (R132). -/
def lineTakesChange (k : Roller) (new : CouplingState) (u : LineUnit) : LineUnit :=
  let view := u.view.set k new
  { u with view := view, brakeHold := u.brakeHold.set k (resting new), liftInhibit := liftInhibitOf view }

/-- The next coupling change event of roller `k`, if one waits. -/
def takeLineChange (k : Roller) (s : State) : State :=
  match s.mail.changeToLine.get k with
  | [] => s
  | e :: rest =>
    onLine (lineTakesChange k e.new) (onMail (fun m => { m with changeToLine := m.changeToLine.set k rest }) s)

/-- The mode of the next published reference record, if one waits (R133). -/
def takeRunLamp (s : State) : State :=
  match s.mail.modeToLine with
  | [] => s
  | m :: rest =>
    onLine (fun u => { u with modeView := m, runLamp := lampLit m })
      (onMail (fun x => { x with modeToLine := rest }) s)

/-- The next change of MARK_OUT, if one waits (R134). -/
def takeMarkOut (s : State) : State :=
  match s.mail.markOut with
  | [] => s
  | v :: rest => onLine (fun u => { u with markOut := v }) (onMail (fun m => { m with markOut := rest }) s)

/-! ## Commands -/

/-- Bit k − 1 of a set of lines stands for line Lk (R187, note 2). -/
def inSet (x : BitVec 24) (l : LineId) : Bool := x.getLsbD (lineNum l - 1)

/-- The latch of a line after the three lists, in their order (R136). -/
def latchAfter (set clear toggle : BitVec 24) (l : LineId) (v : Bool) : Bool :=
  let v := if inSet set l then true else v
  let v := if inSet clear l then false else v
  if inSet toggle l then !v else v

/-- A line named in some list has another code than GENERAL_OUT (R136). -/
def namesOther (u : LineUnit) (x : BitVec 24) : Bool :=
  LineId.all.any fun l => inSet x l && decide (u.settings.functions.line l ≠ .generalOut)

/-- DRIVE LINES (R136). -/
def takeDriveLines (set clear toggle : BitVec 24) (s : State) : Taking :=
  let latches := Lines.ofLine fun l => latchAfter set clear toggle l (s.line.latches.line l)
  doneWith (onLine (fun u => { u with latches := latches }) s)
    (if namesOther s.line (set ||| clear ||| toggle) then 1 else 0) (be 3 (marks latches.inOrder))

/-- ROUTE LINE (R138). The reply gives the code and the value of the logical input of that code. -/
def takeRouteLine (line code : Nat) (s : State) : Taking :=
  match lineOfNum line, functionOfCode code with
  | some l, some f =>
    let value (u : LineUnit) : Byte :=
      match f with
      | .input i => flag (getInput u.inputs i)
      | _ => 0#8
    if cellIdle s = false then .refused .busy
    else if s.line.settings.functions.line l = f then doneWith s 1 [byte code, value s.line]
    else
      let s' := routeChange l f s
      doneWith s' 0 [byte code, value s'.line]
  | _, _ => .refused .range

/-- A group's period code and counts replaced; a new period restarts the group's sample timer (R122,
R139). -/
def setGroup (g : Group) (period : Nat) (counts : Eight Nat) (u : LineUnit) : LineUnit :=
  { u with
    settings :=
      { u.settings with periods := u.settings.periods.set g period, counts := u.settings.counts.set g counts }
    timers := if u.settings.periods.get g = period then u.timers else u.timers.set g (periodUs period) }

/-- SET QUALIFIER (R139). -/
def takeSetQualifier (group period : Nat) (counts : Eight Nat) (s : State) : Taking :=
  match groupOfNum group with
  | none => .refused .range
  | some g =>
    if inRange 0 255 period = false ∨ countsOk counts = false then .refused .range
    else if cellIdle s = false then .refused .busy
    else
      done (onLine (setGroup g period counts) s)
        (if s.line.settings.periods.get g = period ∧ s.line.settings.counts.get g = counts then 1 else 0)

/-- One line in READ LINES: function code, count, qualified value, latch, line drive (11.3). -/
def lineBytes (u : LineUnit) (l : LineId) : List Byte :=
  [byte (functionCode (u.settings.functions.line l)), byte (u.settings.counts.line l),
    (match (u.qualifiers.line l).value with
      | none => 2#8
      | some v => flag v),
    flag (u.latches.line l),
    (match drivenLevel u l with
      | none => 0#8
      | some false => 1#8
      | some true => 2#8)]

/-- READ LINES (R140). -/
def takeReadLines (s : State) : Taking :=
  let u := s.line
  doneWith s 0
    (LineId.all.flatMap (lineBytes u) ++ u.settings.periods.toList.map byte ++
      be 3 (marks (allInputs.map (getInput u.inputs))) ++ [permitsByte u] ++
      [byte (marks (allOutputs.map (getOutput u)))])

/-- The line unit takes its section of the hand-over (R141): period codes and counts with the effect of
R139, then the function codes line by line, each with the effects of R137. The rule gives the lines no order; the
model goes from L1 to L24: DESIGN CHOICE, see assumption 16. -/
def lineHandover (set : LineSettings) (s : State) : State :=
  let grouped := onLine (fun u =>
    setGroup .g3 set.periods.g3 set.counts.g3
      (setGroup .g2 set.periods.g2 set.counts.g2 (setGroup .g1 set.periods.g1 set.counts.g1 u))) s
  LineId.all.foldl
    (fun s l =>
      if s.line.settings.functions.line l = set.functions.line l then s
      else routeChange l (set.functions.line l) s) grouped

end Sys2Proof.Machine
end

