-- ==== Sys2Proof/Machine/Notices.lean ====
section
/-! DEFINITION. The notice queue (chapter 9): admission, storing and displacement, delivery, the shaft
sample, and its commands. -/

namespace Sys2Proof.Machine

/-- Notices the queue can hold (R170). -/
def noticeCapacity : Nat := 16

/-- Notices held. -/
def noticesHeld (q : NoticeQueue) : Nat := q.events.length + q.samples.length

/-- A sample notice, not an event notice (9.1). -/
def isSample : NoticeBody → Bool
  | .shaftSample .. => true
  | .couplingChange .. | .modeChange .. | .profile .. | .skew .. | .lineChange .. | .timeMark ..
  | .zeroDone .. | .storeDone .. | .reloadDone .. => false

/-- A report is admitted when its class is enabled and, for a LINE CHANGE, its logical input selected; a
sample always (R168). -/
def admitted (n : NoticeSettings) (b : NoticeBody) : Bool :=
  match b with
  | .shaftSample .. => true
  | .lineChange i .. => n.enable.getLsbD 4 && n.selection.getLsbD (inputIndex i)
  | b => n.enable.getLsbD (noticeKind b - 1)

/-- One notice is lost: the overflow flag is set (R170, R172). -/
def loseNotice (s : State) : State :=
  countNoticeLost { s with notice := { s.notice with overflow := true } }

/-- An admitted notice is stored, or displaces the newest sample, or is discarded (R170). -/
def storeNotice (n : Notice) (s : State) : State :=
  let q := s.notice
  if noticesHeld q < noticeCapacity then
    if isSample n.body then { s with notice := { q with samples := q.samples ++ [n] } }
    else { s with notice := { q with events := q.events ++ [n] } }
  else if isSample n.body ∨ q.samples = [] then loseNotice s
  else
    loseNotice
      { s with notice := { q with events := q.events ++ [n], samples := q.samples.dropLast } }

/-- Admission (R168): an admitted report takes the next sequence number, stored or not. -/
def admitNotice (time : BitVec 32) (b : NoticeBody) (s : State) : State :=
  if admitted s.notice.settings b then
    storeNotice ⟨s.notice.nextSeq, time, b⟩
      { s with notice := { s.notice with nextSeq := s.notice.nextSeq + 1 } }
  else s

/-- The queue takes a report: the sender's stamp, or its own (R166). -/
def takeReportBody (r : Report) (s : State) : State := admitNotice (r.stamp.getD s.timer.time) r.body s

/-- A RELOAD DONE report is taken after the notice queue has taken its section of the same autoload: it is
admitted under the settings the autoload has left (R174). -/
def reportReady (s : State) (r : Report) : Bool :=
  match r.body with
  | .reloadDone _ => decide (s.mail.handover.notice = none)
  | _ => true

/-- The next report of a sender, if one waits and is ready. -/
def takeReport (x : Sender) (s : State) : State :=
  match reportsOf s.mail.reports x with
  | [] => s
  | r :: rest =>
    if reportReady s r then
      takeReportBody r (onMail (fun m => { m with reports := setReports m.reports x rest }) s)
    else s

/-! ## Coupling changes and the shaft sample (R167) -/

/-- The next coupling change event of roller `k`, if one waits: the view follows and a COUPLING CHANGE is
formed (R73, R167). -/
def takeNoticeChange (k : Roller) (s : State) : State :=
  match s.mail.changeToNotice.get k with
  | [] => s
  | e :: rest =>
    let s' := onMail (fun m => { m with changeToNotice := m.changeToNotice.set k rest }) s
    admitNotice e.time (.couplingChange k e.previous e.new e.reason)
      { s' with notice := { s'.notice with view := s'.notice.view.set k e.new } }

/-- The roller fields of a sample (R167). -/
def rollerSample (s : State) (k : Roller) : RollerSample :=
  let c := s.channel.get k
  { state := s.notice.view.get k, vMeas := c.meas.vMeas, ex := c.meas.ex, demand := c.meas.demand
    force := c.forceRecord.force, refSeq := c.forceRecord.refSeq }

/-- A record completes the sample period (R167). -/
def sampleDue (q : NoticeQueue) : Bool :=
  decide (q.settings.period ≠ 0) && decide (q.settings.period ≤ q.sampleCount + 1)

/-- The queue takes a reference record (R167). -/
def recordArrives (r : RefRecord) (s : State) : State :=
  if s.notice.settings.period = 0 then { s with notice := { s.notice with sampleCount := 0 } }
  else if sampleDue s.notice then
    let s' := { s with notice := { s.notice with sampleCount := 0 } }
    admitNotice s.timer.time (.shaftSample r (Four.tabulate (rollerSample s))) s'
  else { s with notice := { s.notice with sampleCount := s.notice.sampleCount + 1 } }

/-- The next reference record, if one waits. -/
def takeRecord (s : State) : State :=
  match s.mail.recordToNotice with
  | [] => s
  | r :: rest => recordArrives r (onMail (fun m => { m with recordToNotice := rest }) s)

/-- The reference record next in order completes the sample period (R167). -/
def nextSampleDue (s : State) : Bool :=
  match s.mail.recordToNotice with
  | [] => false
  | _ :: _ => sampleDue s.notice

/-! ## Commands -/

/-- The notices a fetch takes, whole and in delivery order: at most `n`, within `room` payload bytes
(R171). -/
def fetchFrom : Nat → Nat → List Notice → List Notice
  | 0, _, _ => []
  | _ + 1, _, [] => []
  | n + 1, room, x :: xs =>
    if (noticeBytes x).length ≤ room then x :: fetchFrom n (room - (noticeBytes x).length) xs else []

/-- The delivery order: event notices, oldest first, then sample notices (R171). -/
def deliveryOrder (q : NoticeQueue) : List Notice := q.events ++ q.samples

/-- The notices of the next fetch: at most 4, in a payload of at most 240 bytes with its 4 leading bytes
(R171, 11.2). -/
def fetched (q : NoticeQueue) : List Notice := fetchFrom 4 236 (deliveryOrder q)

/-- FETCH NOTICES (R171, R172). -/
def takeFetchNotices (s : State) : Taking :=
  let q := s.notice
  let out := fetched q
  let q' := { q with events := q.events.drop out.length, samples := q.samples.drop (out.length - q.events.length) }
  let left := noticesHeld q'
  doneWith { s with notice := { q' with overflow := if left = 0 then false else q.overflow } }
    (if left = 0 then 0 else 1)
    ([byte left, flag q.overflow, byte out.length] ++ out.flatMap noticeBytes)

/-- The three fields a SET NOTICES carries: bits beyond the last member are ignored (R187). -/
def noticeFields (enable : BitVec 16) (period : Nat) (selection : BitVec 24) : NoticeSettings :=
  ⟨enable.setWidth 9, period, selection.setWidth 17⟩

/-- SET NOTICES (R169). -/
def takeSetNotices (enable : BitVec 16) (period : Nat) (selection : BitVec 24) (s : State) : Taking :=
  if samplePeriodOk period = false then .refused .range
  else
    let n := noticeFields enable period selection
    doneWith
      { s with
        notice :=
          { s.notice with
            settings := n
            sampleCount := if period = s.notice.settings.period then s.notice.sampleCount else 0 } }
      (if n = s.notice.settings then 1 else 0) (noticeSettingsBytes n)

/-- The notice queue takes its section of the hand-over: the sample count becomes 0 (R174). -/
def noticeHandover (n : NoticeSettings) (s : State) : State :=
  { s with notice := { s.notice with settings := n, sampleCount := 0 } }

end Sys2Proof.Machine
end

