-- ==== Sys2Proof/Machine/Profile.lean ====
section
/-! DEFINITION. The profile queue (chapter 5): loading, run states, the running interval, cues, run
endings, and the events it takes. -/

namespace Sys2Proof.Machine

/-- Points the list can hold (R99). -/
def pointCapacity : Nat := 64

/-- The free space (R103). -/
def freeSpace (p : Profile) : Nat := pointCapacity - p.points.length

def onProfile (f : Profile → Profile) (s : State) : State := { s with profile := f s.profile }

/-- The run record from the queue as it stands: `d` is the duration of the front point, 0 when no point is
held (5.3). -/
def runRecordOf (p : Profile) : RunRecord :=
  { run := p.run, target := p.target, grade := p.grade, elapsed := p.elapsed
    duration := (p.points.head?.map (·.duration)).getD 0, consumed := p.consumed }

/-- The run record published (5.3). -/
def publishRun : State → State := onProfile fun p => { p with record := runRecordOf p }

/-- A PROFILE notice with the run state after the event, stamped with this cell time (R120). -/
def profileNoticeAt (time : BitVec 32) (e : ProfileEvent) (s : State) : State :=
  sendReport .profile ⟨some time, .profile e s.profile.run⟩ s

/-- A PROFILE notice stamped with the cell time as last published (R120). -/
def profileNotice (e : ProfileEvent) (s : State) : State := profileNoticeAt s.timer.time e s

/-- The space test (R103): the free space passed from below 32 to 32 or more. -/
def spaceTest (before : Nat) (s : State) : State :=
  if before < 32 ∧ 32 ≤ freeSpace s.profile then profileNotice (.space (freeSpace s.profile)) s else s

/-! ## Starting (R106, R107) -/

/-- Enough points held, or the trace closed (R106). -/
def enoughPoints (p : Profile) : Bool := decide (p.threshold ≤ p.points.length) || p.closed

/-- The start condition is met; `atMark` says that the test is made at a time mark (R106). -/
def conditionMet (p : Profile) (atMark : Bool) : Bool :=
  match p.condition with
  | .immediate => true
  | .atMark => p.markKept || atMark

/-- The run starts (R106): from the published reference speed, at the front point. `byLoad` says that a
load made the start; with a mark kept the notice is then LATE_START. `time` is the stamp of the notice: the cell time
of the mark for a start at a mark (R148; DEDUCED, see assumption 36), else the one last published (R120). -/
def startRun (byLoad : Bool) (time : BitVec 32) (s : State) : State :=
  let v := s.shaft.record.speed
  let s' := publishRun (onProfile (fun p =>
    { p with
      run := .running, vs := v, elapsed := 0, target := v
      grade := (p.points.head?.map (·.grade)).getD p.grade, consumed := 0 }) s)
  let held := s.profile.points.length
  profileNoticeAt time
    (if byLoad ∧ s.profile.markKept then .lateStart s.profile.condition (toMm v) held
     else .started s.profile.condition (toMm v) held) s'

/-- The start test, made while the run is ARMED (R106); `mark` is the cell time of the time mark being taken, if the
test is made at one (R107). -/
def startTest (byLoad : Bool) (mark : Option (BitVec 32)) (s : State) : State :=
  if s.profile.run = .armed ∧ conditionMet s.profile mark.isSome ∧ enoughPoints s.profile then
    startRun byLoad (mark.getD s.timer.time) s
  else s

/-! ## Commands -/

/-- A point as stored: speed and grade clamped with the limits held (R101). -/
def clampPoint (l : Limits) (p : Point) : Point :=
  { p with speed := clampSpeed l p.speed, grade := clampAbs 3000 p.grade }

/-- An END flag on a point other than the last, or a duration of 0 (R100). -/
def pointsBad (ps : List Point) : Bool :=
  ps.any (fun p => decide (p.duration = 0)) || ps.dropLast.any (·.isEnd)

/-- The last point of a load is an END point. -/
def closes (ps : List Point) : Bool := (ps.getLast?.map (·.isEnd)).getD false

/-- LOAD POINTS (R100 to R103, R106). -/
def takeLoadPoints (count : Nat) (bytes : List Byte) (s : State) : Taking :=
  if count = 0 ∨ 16 < count then .refused .range
  else
    match parsePoints count bytes with
    | none => .refused .length
    | some ps =>
      if pointsBad ps then .refused .range
      else if runEnded s.profile.run then .refused .state
      else if s.profile.closed then .refused .closed
      else if freeSpace s.profile < count then .refused .full
      else
        let stored := ps.map (clampPoint s.shaft.settings.limits)
        let loaded := onProfile (fun p => { p with points := p.points ++ stored, closed := closes ps }) s
        let s' := spaceTest (freeSpace s.profile) (startTest true none loaded)
        doneWith s' (if stored = ps then 0 else 1) [byte (freeSpace s'.profile)]

/-- START PROFILE (R105). -/
def takeStartProfile (condition : Nat) (s : State) : Taking :=
  match conditionOfCode condition with
  | none => .refused .range
  | some c =>
    if s.profile.run = .idle ∧ (s.shaft.mode = .roadLoad ∨ s.shaft.mode = .speedProfile) then
      let armed := publishRun (onProfile (fun p => { p with run := .armed, condition := c, markKept := false }) s)
      let s' := startTest false none armed
      done s' (if s'.profile.run = .running then 0 else 1)
    else .refused .state

/-- An ARMED or RUNNING run becomes ABANDONED, with its notice; the points stay and the elapsed count is
discarded (R115, R116). -/
def abandonRun (cause : AbandonCause) (s : State) : State :=
  profileNotice
    (.abandoned cause (toMm s.profile.target) s.profile.consumed s.profile.points.length)
    (publishRun (onProfile (fun p => { p with run := .abandoned, elapsed := 0 }) s))

/-- ABANDON PROFILE (R115). -/
def takeAbandonProfile (s : State) : Taking :=
  if runActive s.profile.run then done (sendToShaft .abandonment (abandonRun .command s)) 0
  else .refused .state

/-- CLEAR PROFILE (R117). -/
def takeClearProfile (s : State) : Taking :=
  if runActive s.profile.run then .refused .state
  else
    let cleared := publishRun (onProfile (fun p =>
      { p with points := [], closed := false, markKept := false, elapsed := 0, run := .idle }) s)
    done (spaceTest (freeSpace s.profile) cleared) 0

/-- SET PROFILE (R118). -/
def takeSetProfile (threshold : Nat) (s : State) : Taking :=
  if thresholdOk threshold = false then .refused .range
  else if runActive s.profile.run then .refused .state
  else done (onProfile (fun p => { p with threshold := threshold }) s) 0

/-- The front point in READ PROFILE: its cue number carried as 0 when MARK is clear, all 0 when no point is
held (11.3). -/
def frontPointBytes (p : Profile) : List Byte :=
  match p.points with
  | [] => List.replicate 9 0#8
  | x :: _ => (pointBytes x ++ [0#8]).take 9

/-- READ PROFILE (R119). -/
def takeReadProfile (s : State) : Taking :=
  let p := s.profile
  doneWith s 0
    ([byte (runCode p.run), byte (conditionCode p.condition), flag p.markKept, byte p.threshold,
      byte p.points.length, byte (freeSpace p), flag p.closed] ++
      be 4 (toMm p.record.target) ++ be 2 p.record.grade ++ be 2 p.record.elapsed ++
      be 2 p.record.duration ++ be 2 p.record.consumed ++ be 4 (toMm p.vs) ++ frontPointBytes p ++
      [byte p.pulse])

/-! ## One interval (R108 to R113) -/

/-- The run target `e` intervals into a segment (R108). -/
def runTarget (vs : Int) (p : Point) (e : Nat) : Int :=
  vs + rdiv ((p.speed * q16 - vs) * (e : Int)) (p.duration : Int)

/-- The pulse count decreased, with the change of MARK_OUT reported when it reaches 0 (R111). -/
def pulseStep (s : State) : State :=
  match s.profile.pulse with
  | 0 => s
  | n + 1 =>
    let s' := onProfile (fun p => { p with pulse := n }) s
    if n = 0 then sendMarkOut false s' else s'

/-- A cue is raised (R111): its notice, and the pulse count set to 10; MARK_OUT rises when it was 0. -/
def raiseCue (number : Nat) (s : State) : State :=
  let s' := profileNotice (.cue number s.profile.consumed) (onProfile (fun p => { p with pulse := 10 }) s)
  if s.profile.pulse = 0 then sendMarkOut true s' else s'

/-- The END point consumed (R112). -/
def finishRun (v : Int) (s : State) : State :=
  sendToShaft (.finish v)
    (profileNotice (.finished v s.profile.consumed)
      (onProfile (fun p => { p with closed := false, run := .finished }) s))

/-- The list emptied without an END point (R113). -/
def starveRun (v : Int) (s : State) : State :=
  sendToShaft .starvation
    (profileNotice (.starved v s.profile.consumed)
      (countUnderrun (onProfile (fun p => { p with run := .starved }) s)))

/-- The front point `x` is reached, and `rest` remains (R110). -/
def consumePoint (x : Point) (rest : List Point) (s : State) : State :=
  let removed := onProfile (fun p => { p with points := rest, consumed := satInc 65535 p.consumed }) s
  let spaced := spaceTest (freeSpace s.profile) removed
  let cued := match x.cue with
    | none => spaced
    | some n => raiseCue n spaced
  if x.isEnd then finishRun x.speed cued
  else if rest.isEmpty then starveRun x.speed cued
  else onProfile (fun p => { p with vs := x.speed * q16, elapsed := 0 }) cued

/-- A RUNNING run advances its front segment and publishes the run record (R108 to R110). -/
def advanceRun (s : State) : State :=
  match s.profile.points with
  | [] => publishRun s
  | x :: rest =>
    let e := s.profile.elapsed + 1
    let moved := onProfile (fun p =>
      { p with elapsed := e, target := runTarget p.vs x e, grade := x.grade }) s
    publishRun (if x.duration ≤ e then consumePoint x rest moved else moved)

/-- The interval expiry of the profile queue (R108, R111). -/
def profileExpiry (s : State) : State :=
  let s' := pulseStep s
  if s'.profile.run = .running then advanceRun s' else s'

/-- The elapsed count reaches the front point's duration at this expiry (R110). -/
def pointReachedNow (p : Profile) : Bool :=
  decide (p.run = .running) &&
    (match p.points with
      | [] => false
      | x :: _ => decide (x.duration ≤ p.elapsed + 1))

/-! ## Events of other blocks -/

/-- A time mark of this cell time reaches the profile queue (R107). -/
def profileTakesMark (time : BitVec 32) (s : State) : State :=
  if s.profile.run = .armed ∧ s.profile.condition = .atMark then
    if enoughPoints s.profile then startTest false (some time) s
    else onProfile (fun p => { p with markKept := true }) s
  else s

/-- The next time mark, if one waits. -/
def takeProfileMark (s : State) : State :=
  match s.mail.timeMark with
  | [] => s
  | time :: rest => profileTakesMark time (onMail (fun m => { m with timeMark := rest }) s)

/-- An abandonment from the shaft model (R116): an ended or idle run is left as it is. -/
def profileTakesAbandonment (cause : AbandonCause) (s : State) : State :=
  if runActive s.profile.run then abandonRun cause s else s

/-- The next abandonment, if one waits. -/
def takeProfileAbandonment (s : State) : State :=
  match s.mail.abandonment with
  | [] => s
  | c :: rest => profileTakesAbandonment c (onMail (fun m => { m with abandonment := rest }) s)

/-- The profile queue takes its section of the hand-over (R121). -/
def profileHandover (threshold : Nat) : State → State := onProfile fun p => { p with threshold := threshold }

end Sys2Proof.Machine
end

