-- ==== Sys2Proof/Machine/Shaft.lean ====
section
/-! DEFINITION. The shaft model (chapter 1): its commands, its interval, and the events it takes. -/

namespace Sys2Proof.Machine

/-! ## Mode changes (1.2) -/

/-- The mode and stop cause change, with the MODE CHANGE notice of R11: speed in mm/s at the change and
the sequence number of the latest published record. -/
def shaftSetMode (new : Mode) (cause : StopCause) (s : State) : State :=
  reportPlain .shaft (.modeChange s.shaft.mode new cause (toMm s.shaft.speed) s.shaft.record.seq)
    { s with shaft := { s.shaft with mode := new, stopCause := cause } }

/-- The shaft model sees the profile run ARMED or RUNNING in the run record (R5, R6, R116). -/
def seesActiveRun (s : State) : Bool := runActive s.profile.record.run

/-- Entry into STOPPING from a running mode (R6): an ARMED or RUNNING run is handed an abandonment with
cause STOP. -/
def enterStopping (cause : StopCause) (s : State) : State :=
  shaftSetMode .stopping cause (if seesActiveRun s then sendAbandonment .stop s else s)

/-- SELECT MODE abandons the run: it is ARMED or RUNNING and the mode left is ROAD_LOAD or SPEED_PROFILE (R5). -/
def leavesRun (s : State) : Bool :=
  seesActiveRun s && (decide (s.shaft.mode = .roadLoad) || decide (s.shaft.mode = .speedProfile))

/-! ## Commands -/

/-- SELECT MODE from a running mode to another running mode (R5): an ARMED or RUNNING run is abandoned
with cause MODE when the mode left is ROAD_LOAD or SPEED_PROFILE. -/
def switchRunningMode (new : Mode) (s : State) : Taking :=
  if leavesRun s then
    done (shaftSetMode new s.shaft.stopCause (sendAbandonment .mode s)) 2
  else done (shaftSetMode new s.shaft.stopCause s) 0

/-- SELECT MODE (R4, R5). A request for IDLE enters STOPPING by R6, and answers class 2 only when the mode left is
ROAD_LOAD or SPEED_PROFILE with an ARMED or RUNNING run. -/
def takeSelectMode (mode : Nat) (s : State) : Taking :=
  match modeOfCode mode with
  | none => .refused .range
  | some .stopping => .refused .range
  | some new =>
    match s.shaft.mode with
    | .stopping => .refused .state
    | .idle =>
      if new = .idle then done s 1
      else if s.shaft.permitView = false then .refused .permit
      else if s.shaft.contributing = 0 then .refused .state
      else done (shaftSetMode new .none s) 0
    | .roadLoad | .speedProfile | .constantSpeed =>
      if new = s.shaft.mode then done s 1
      else if new = .idle then done (enterStopping .command s) (if leavesRun s then 2 else 0)
      else switchRunningMode new s

/-- SET ROAD LOAD (R13). -/
def takeSetRoadLoad (r : RoadLoad) (s : State) : Taking :=
  if roadLoadOk r then
    done { s with shaft := { s.shaft with settings := { s.shaft.settings with road := r } } } 0
  else .refused .range

/-- SET LIMITS (R14, R16): the mode is checked first, then the ranges. -/
def takeSetLimits (l : Limits) (s : State) : Taking :=
  if s.shaft.mode ≠ .idle then .refused .state
  else if limitsOk l then
    let setpoint := clampSpeed l s.shaft.settings.setpoint
    done
      { s with
        shaft :=
          { s.shaft with
            settings := { s.shaft.settings with limits := l, setpoint := setpoint }
            dvLim := dvOf l.aLim, dvStop := dvOf l.aStop } }
      (if setpoint = s.shaft.settings.setpoint then 0 else 1)
  else .refused .range

/-- SET SPEED (R15). -/
def takeSetSpeed (v : Int) (s : State) : Taking :=
  let setpoint := clampSpeed s.shaft.settings.limits v
  done { s with shaft := { s.shaft with settings := { s.shaft.settings with setpoint := setpoint } } }
    (if setpoint = v then 0 else 1)

/-- STOP (R7): class 2 when a profile run was abandoned. -/
def takeStop (s : State) : Taking :=
  if running s.shaft.mode then done (enterStopping .command s) (if seesActiveRun s then 2 else 0) else done s 1

/-- READ REFERENCE (R31). -/
def takeReadReference (s : State) : Taking :=
  doneWith s 0
    (refRecordBytes s.shaft.record ++ [byte (stopCauseCode s.shaft.stopCause)] ++
      be 4 s.shaft.settings.setpoint ++ roadLoadBytes s.shaft.settings.road ++
      limitsBytes s.shaft.settings.limits)

/-! ## One interval (1.4) -/

/-- The force of a channel's latest force record when it is marked contributing, else 0 (R19). -/
def contributedForce (c : Channel) : Int := if c.forceRecord.contributing then c.forceRecord.force else 0

/-- F_meas (R19). -/
def forceSum (s : State) : Int :=
  contributedForce s.channel.fl + contributedForce s.channel.fr + contributedForce s.channel.rl +
    contributedForce s.channel.rr

/-- The grade in use (R20): the segment grade of a RUNNING run, else the fixed grade. -/
def gradeInUse (s : State) : Int :=
  if s.profile.record.run = .running then s.profile.record.grade else s.shaft.settings.road.grade

/-- The speed change of ROAD_LOAD before its clamp (R23). -/
def roadLoadDv (m : Nat) (fNet : Int) : Int := rdiv (fNet * 65536) (10 * (m : Int))

/-- `v + dv` is zero or on the other side of zero (R24). -/
def crossesZero (v v1 : Int) : Bool :=
  decide (v ≠ 0) && (decide (v1 = 0) || (decide (0 < v) && decide (v1 < 0)) || (decide (v < 0) && decide (0 < v1)))

/-- A speed moved toward a wanted speed change within ±dv_lim: the speed and whether the clamp acted. -/
def limitedStep (dvLim v dv : Int) : Int × Bool :=
  (v + clampAbs dvLim dv, decide (clampAbs dvLim dv ≠ dv))

/-- The new speed of the mode before the speed clamp, and the acceleration limited flag (R23, R24, R26,
R27, R28). -/
def speedOfMode (sh : Shaft) (run : RunRecord) (fNet : Int) : Int × Bool :=
  match sh.mode with
  | .idle => (0, false)
  | .roadLoad =>
    let step := limitedStep sh.dvLim sh.speed (roadLoadDv sh.settings.road.m fNet)
    (if crossesZero sh.speed step.1 then 0 else step.1, step.2)
  | .speedProfile =>
    if run.run = .running then limitedStep sh.dvLim sh.speed (run.target - sh.speed) else (sh.speed, false)
  | .constantSpeed => limitedStep sh.dvLim sh.speed (sh.settings.setpoint * q16 - sh.speed)
  | .stopping =>
    if sh.dvStop < mag sh.speed then
      (if 0 < sh.speed then sh.speed - sh.dvStop else sh.speed + sh.dvStop, true)
    else (0, false)

/-- The speed clamp of R25, made in every mode but IDLE: the speed and whether it acted. -/
def speedClamp (sh : Shaft) (v : Int) : Int × Bool :=
  if sh.mode = .idle then (v, false)
  else
    let v' := clampTo (-(sh.settings.limits.vRev : Int) * q16) ((sh.settings.limits.vMax : Int) * q16) v
    (v', decide (v' ≠ v))

/-- The stop ramp reaches 0 at this expiry (R27). -/
def rampEnds (sh : Shaft) : Bool := decide (sh.mode = .stopping) && decide (mag sh.speed ≤ sh.dvStop)

/-- The reference record of this interval (R30): `mode` after the interval, `v` the new speed, with the
flags of R23 to R27. -/
def intervalRecord (s : State) (mode : Mode) (v : Int) (acc lim : Bool) : RefRecord :=
  let sh := s.shaft
  let fMeas := forceSum s
  let grade := gradeInUse s
  let fGrade := gradeForce sh.settings.road.m grade
  { seq := sh.record.seq + 1, mode := mode, speed := v, dv := v - sh.speed
    distance := (sh.distance.advance v).um, fMeas := fMeas
    roadLoad := roadLoadSigned sh.settings.road sh.speed fMeas fGrade
    fGrade := fGrade, grade := grade
    traceSpeed := if s.profile.record.run = .running then some (toMm s.profile.record.target) else none
    accLimited := acc, speedLimited := lim }

/-- The net force of this interval (R22). -/
def intervalForce (s : State) : Int :=
  netForce s.shaft.settings.road s.shaft.speed (forceSum s)
    (gradeForce s.shaft.settings.road.m (gradeInUse s))

/-- The interval expiry of the shaft model (R18): forces, speed change, speed, distance, record. At the end
of a stop the mode becomes IDLE with a MODE CHANGE notice of speed 0 (R11, R27). -/
def shaftInterval (s : State) : State :=
  let step := speedOfMode s.shaft s.profile.record (intervalForce s)
  let clamped := speedClamp s.shaft step.1
  let mode := if rampEnds s.shaft then .idle else s.shaft.mode
  let record := intervalRecord s mode clamped.1 step.2 clamped.2
  let noted :=
    if rampEnds s.shaft then
      reportPlain .shaft (.modeChange .stopping .idle s.shaft.stopCause 0 s.shaft.record.seq) s
    else s
  sendRecord record
    { noted with
      shaft :=
        { s.shaft with
          mode := mode, speed := clamped.1, distance := s.shaft.distance.advance clamped.1
          lastDv := record.dv, record := record } }

/-! ## Events of other blocks (1.2.3, 1.2.4) -/

/-- An event that stops the shaft model (R8, R9): from a running mode it enters STOPPING; in STOPPING an
ESTOP replaces the stop cause with a notice and any other cause is ignored; in IDLE nothing changes. -/
def shaftStopEvent (cause : StopCause) (s : State) : State :=
  if running s.shaft.mode then enterStopping cause s
  else if s.shaft.mode = .stopping ∧ cause = .estop then shaftSetMode .stopping .estop s
  else s

/-- The shaft model takes a run permit event (R3, R8): the view follows it; a marked event stops with
ESTOP, an unmarked change to absent with PERMIT. -/
def shaftTakesPermit (e : RunPermitEvent) (s : State) : State :=
  let s := { s with shaft := { s.shaft with permitView := e.present } }
  if e.estopMark then shaftStopEvent .estop s
  else if e.present then s
  else shaftStopEvent .permit s

/-- The contributing roller count after a coupling change (R3). -/
def contributingAfter (n : Nat) (c : Change) : Nat :=
  n + (if attached c.new then 1 else 0) - (if attached c.previous then 1 else 0)

/-- The shaft model takes a coupling change (R3): its count follows, and it stops with NO_ROLLERS when the
count becomes 0 (R8). -/
def shaftTakesChange (c : Change) (s : State) : State :=
  let n := contributingAfter s.shaft.contributing c
  let s' := { s with shaft := { s.shaft with contributing := n } }
  if s.shaft.contributing ≠ 0 ∧ n = 0 then shaftStopEvent .noRollers s' else s'

/-- CONSTANT_SPEED entered from SPEED_PROFILE at a setpoint, with its notice (R10). -/
def shaftToConstant (setpoint : Int) (s : State) : State :=
  if s.shaft.mode = .speedProfile then
    shaftSetMode .constantSpeed s.shaft.stopCause
      { s with shaft := { s.shaft with settings := { s.shaft.settings with setpoint := setpoint } } }
  else s

/-- The shaft model takes a run finish (R10): the END point's speed, clamped, becomes the setpoint. -/
def shaftTakesFinish (speed : Int) (s : State) : State :=
  shaftToConstant (clampSpeed s.shaft.settings.limits speed) s

/-- The shaft model takes an abandonment by command (R10): the present speed becomes the setpoint. -/
def shaftTakesAbandonment (s : State) : State := shaftToConstant (toMm s.shaft.speed) s

/-- The shaft model takes a starvation (R8, R113): in SPEED_PROFILE it stops with UNDERRUN. -/
def shaftTakesStarvation (s : State) : State :=
  if s.shaft.mode = .speedProfile then enterStopping .underrun s else s

/-! ## Taking the events that wait -/

/-- The next run permit event, if one waits. -/
def takeShaftPermit (s : State) : State :=
  match s.mail.permitToShaft with
  | [] => s
  | e :: rest => shaftTakesPermit e (onMail (fun m => { m with permitToShaft := rest }) s)

/-- The next coupling change of roller `k`, if one waits. -/
def takeShaftChange (k : Roller) (s : State) : State :=
  match s.mail.changeToShaft.get k with
  | [] => s
  | c :: rest =>
    shaftTakesChange c (onMail (fun m => { m with changeToShaft := m.changeToShaft.set k rest }) s)

/-- The next shaft skew fault, if one waits (R97). -/
def takeShaftSkew (s : State) : State :=
  match s.mail.skewFault with
  | 0 => s
  | n + 1 => shaftStopEvent .skew (onMail (fun m => { m with skewFault := n }) s)

/-- The run ending next in order, if it is a finish. -/
def takeShaftFinish (s : State) : State :=
  match s.mail.toShaft with
  | .finish v :: rest => shaftTakesFinish v (onMail (fun m => { m with toShaft := rest }) s)
  | _ => s

/-- The run ending next in order, if it is a starvation. -/
def takeShaftStarvation (s : State) : State :=
  match s.mail.toShaft with
  | .starvation :: rest => shaftTakesStarvation (onMail (fun m => { m with toShaft := rest }) s)
  | _ => s

/-- The run ending next in order, if it is an abandonment by command. -/
def takeShaftAbandonment (s : State) : State :=
  match s.mail.toShaft with
  | .abandonment :: rest => shaftTakesAbandonment (onMail (fun m => { m with toShaft := rest }) s)
  | _ => s

/-- The shaft model takes its section of the hand-over: settings replaced and both speed-change limits
formed anew (R16, R32 note 1). -/
def shaftHandover (set : ShaftSettings) (s : State) : State :=
  { s with
    shaft :=
      { s.shaft with
        settings := set, dvLim := dvOf set.limits.aLim, dvStop := dvOf set.limits.aStop } }

end Sys2Proof.Machine
end

