-- ==== Sys2Proof/Machine/Target.lean ====
section
/-! DEFINITION. Target formation (chapter 3): the ratio table, ratio selection, target speeds and
positions, and the nudge. -/

namespace Sys2Proof.Machine

/-! ## Commands -/

/-- SET RATIO (R60). -/
def takeSetRatio (entry : Nat) (goal : Int) (s : State) : Taking :=
  match entryOfNum entry with
  | none => .refused .range
  | some i =>
    let g := clampAbs 50000 goal
    doneWith
      { s with
        target :=
          { s.target with settings := { s.target.settings with goals := s.target.settings.goals.set i g } } }
      (if g = goal then 0 else 1) (be 4 g ++ be 4 (s.target.current.get i))

/-- SELECT RATIO (R61). -/
def takeSelectRatio (roller select : Nat) (s : State) : Taking :=
  match rollerOfNum roller with
  | none => .refused .range
  | some k =>
    if 7 < select then .refused .range
    else if positionHeld (s.coupling.roller.get k).state then .refused .state
    else if s.target.settings.selects.get k = select then done s 1
    else
      done
        { s with
          target :=
            { s.target with
              settings := { s.target.settings with selects := s.target.settings.selects.set k select } } } 0

/-- NUDGE (R69): the sum is clamped to ±65 535. -/
def takeNudge (roller : Nat) (displacement : Int) (s : State) : Taking :=
  match rollerOfNum roller with
  | none => .refused .range
  | some k =>
    if inRange (-65535) 65535 displacement = false then .refused .range
    else if positionHeld (s.coupling.roller.get k).state = false then .refused .state
    else
      let sum := (s.target.roller.get k).nudge + displacement
      let held := clampAbs 65535 sum
      doneWith (onTarget k (fun t => { t with nudge := held }) s) (if held = sum then 0 else 1) (be 4 held)

/-! ## One interval (R63) -/

/-- A current value moved toward its goal by at most 10 ppm (R59). -/
def slew (goal current : Int) : Int :=
  if mag (goal - current) ≤ 10 then goal else if current < goal then current + 10 else current - 10

/-- The seven current values after the slew (R59). -/
def slewAll (goals current : Seven Int) : Seven Int :=
  .tabulate fun i => slew (goals.get i) (current.get i)

/-- The target speed at ratio `p` ppm (R64). -/
def targetSpeed (vRef p : Int) : Int := vRef + rdiv (vRef * p) 1000000

/-- The integer part of a position displaced by a nudge, the fraction as it is (R68). -/
def nudgePos (p : Pos) (d : Int) : Pos := { p with um := BitVec.ofInt 32 ((p.um.toNat : Int) + d) }

/-- What target formation forms for one roller at an expiry (R64 to R66, R68): the target speed; then, in
the views LOCKED and LOST_LOCK, the advanced position with the pending nudge applied, and in every other
view the measured position. -/
def targetOf (ref : RefRecord) (current : Seven Int) (select : Nat) (meas : MeasRecord) (t : TargetRoller) :
    TargetRoller :=
  let ratio := ratioInUse current select
  let v := targetSpeed ref.speed ratio
  if positionHeld t.view then
    let pos := nudgePos (t.pos.advance v) t.nudge
    { t with
      speed := v, pos := pos, nudge := 0
      record :=
        { refSeq := ref.seq, select := select, ratio := ratio, speed := v, advanced := true, pos := pos
          nudge := t.nudge } }
  else
    { t with
      speed := v, pos := meas.pos
      record :=
        { refSeq := ref.seq, select := select, ratio := ratio, speed := v, advanced := false
          pos := meas.pos, nudge := 0 } }

/-- The interval expiry of target formation (R63). -/
def targetExpiry (s : State) : State :=
  let current := slewAll s.target.settings.goals s.target.current
  { s with
    target :=
      { s.target with
        current := current
        roller :=
          .tabulate fun k =>
            targetOf s.shaft.record current (s.target.settings.selects.get k) (s.channel.get k).meas
              (s.target.roller.get k) } }

/-! ## Coupling changes (R62) -/

/-- Target formation takes a coupling change (R62, R70): entering LOCKED from outside the locked views
captures the measured position; leaving the locked views clears the pending nudge. -/
def targetTakesChange (meas : MeasRecord) (t : TargetRoller) (new : CouplingState) : TargetRoller :=
  if positionHeld t.view then
    if positionHeld new then { t with view := new } else { t with view := new, nudge := 0 }
  else if new = .locked then { t with view := new, pos := meas.pos }
  else { t with view := new }

/-- The next coupling change event of roller `k`, if one waits. -/
def takeTargetChange (k : Roller) (s : State) : State :=
  match s.mail.changeToTarget.get k with
  | [] => s
  | e :: rest =>
    onTarget k (fun t => targetTakesChange (s.channel.get k).meas t e.new)
      (onMail (fun m => { m with changeToTarget := m.changeToTarget.set k rest }) s)

/-- Target formation takes its section of the hand-over: goals and selects; the current values stand
(R71, note 1). -/
def targetHandover (r : RatioSettings) (s : State) : State :=
  { s with target := { s.target with settings := r } }

end Sys2Proof.Machine
end

