-- ==== Sys2Proof/Machine/Store.lean ====
section
/-! DEFINITION. The settings store (chapter 10): the image, the store and its stages, the resets, the
autoload and its hand-over, the counters, the identity and the status. -/

namespace Sys2Proof.Machine

def onStore (f : Store → Store) (s : State) : State := { s with store := f s.store }

/-- Every live setting of R175 as the blocks hold it: what a STORE SETTINGS copies into the snapshot (R177). -/
def liveSettings (s : State) : Settings :=
  { link := s.link.settings, shaft := s.shaft.settings, rollers := s.channel.map (·.settings)
    coupling := s.coupling.params, ratio := s.target.settings, line := s.line.settings
    threshold := s.profile.threshold, notice := s.notice.settings }

/-! ## Writes to the settings memory (R177, R178, 11.8) -/

/-- Bytes placed at consecutive addresses from `a`. -/
def cellsFrom : Nat → List Byte → List Host.Cell
  | _, [] => []
  | a, b :: bs => (a, b) :: cellsFrom (a + 1) bs

/-- The invalid mark 0x0000 over the format code (R177). -/
def markCells : List Host.Cell := cellsFrom 0 (be 2 0)

/-- The header as SEAL writes it: length and CRC-32 first and the format code last, so that the image is
invalid until SEAL completes (R179). DEDUCED; see assumption 9. -/
def sealCells (x : Settings) : List Host.Cell :=
  cellsFrom 2 ((headerBytes (sectionBytes x)).drop 2) ++ cellsFrom 0 ((headerBytes (sectionBytes x)).take 2)

/-- What a stage of a store writes, in order (R177, R178). The order of the bytes inside a stage shows in the memory when
the store is cut or fails there, and no rule states it: WRITE writes the section bytes by rising address from 8, and the
bytes of the mark and of each part of the header rise in address too. DESIGN CHOICE, see assumption 40; for the parts of
the header see assumption 9. -/
def stageCells (x : Settings) : StoreStage → List Host.Cell
  | .mark => markCells
  | .write => cellsFrom 8 (sectionBytes x)
  | .seal => sealCells x
  | .check => []

/-- The memory with the first `n` bytes that the stage in progress writes. In SEAL the image is valid from the last header
byte the memory takes: a store cut or failed in SEAL with all 8 bytes taken leaves a sealed image, though the stage has
not been reported done. R179 says that the image is invalid until SEAL completes, not which moment that is: DESIGN
CHOICE, see assumption 41. -/
def stageLanded (st : Store) (n : Nat) : List Host.Cell :=
  match st.snapshot with
  | none => st.memory
  | some x => Memory.writeCells st.memory ((stageCells x st.stage).take n)

/-- The memory with the whole of the stage in progress written. -/
def stageWritten (st : Store) : List Host.Cell :=
  match st.snapshot with
  | none => st.memory
  | some x => Memory.writeCells st.memory (stageCells x st.stage)

/-! ## A store (R177, R178) -/

/-- The end of a store: IDLE, no snapshot, its outcome held, and the STORE DONE report. -/
def endStore (outcome : StoreOutcome) (ok : Bool) (stage : StoreStage) (s : State) : State :=
  reportPlain .store (.storeDone ok stage)
    (onStore (fun st => { st with activity := .idle, snapshot := none, lastOutcome := outcome }) s)

/-- STORE SETTINGS (R177); `accepts` says whether the memory accepts the mark. The stage goes on to WRITE
within the command. -/
def takeStoreSettings (accepts : Bool) (s : State) : Taking :=
  if storing s then .refused .busy
  else if accepts then
    done
      (onStore (fun st =>
        { st with
          activity := .storing, stage := .write, snapshot := some (liveSettings s)
          memory := Memory.writeCells st.memory markCells }) s) 0
  else done (endStore (.failed .mark) false .mark (onStore (fun st => { st with stage := .mark }) s)) 0

/-- A failed end after the mark (R178): the invalid mark is written once more if the memory accepts it. -/
def failStore (remark : Bool) (s : State) : State :=
  endStore (.failed s.store.stage) false s.store.stage
    (if remark then onStore (fun st => { st with memory := Memory.writeCells st.memory markCells }) s else s)

/-- The stage in progress is `stage`. -/
def inStage (stage : StoreStage) (s : State) : Bool := storing s && decide (s.store.stage = stage)

/-- The writes of the stage are accepted and the next stage begins, or they fail with `landed` bytes
taken (R178). -/
def writesEnd (next : StoreStage) (accepted : Bool) (landed : Nat) (remark : Bool) (s : State) : State :=
  if accepted then onStore (fun st => { st with memory := stageWritten st, stage := next }) s
  else failStore remark (onStore (fun st => { st with memory := stageLanded st landed }) s)

/-- The WRITE stage ends. -/
def writeDone (accepted : Bool) (landed : Nat) (remark : Bool) (s : State) : State :=
  if inStage .write s then writesEnd .seal accepted landed remark s else s

/-- The SEAL stage ends. -/
def sealDone (accepted : Bool) (landed : Nat) (remark : Bool) (s : State) : State :=
  if inStage .seal s then writesEnd .check accepted landed remark s else s

/-- Bytes of a whole image (11.8). -/
def imageSize : Nat := 288

/-- The bytes a read of the image returns, if the memory answers and completes it. -/
def imageRead (memory : List Host.Cell) (read : MemRead) : Option (List Byte) :=
  read.map fun departs => Memory.readBackList memory departs 0 imageSize

/-- The read-back agrees with the snapshot (R178). -/
def checkAgrees (st : Store) (read : MemRead) : Bool :=
  match st.snapshot with
  | none => false
  | some x => decide (imageRead st.memory read = some (imageBytes x))

/-- The CHECK stage ends. -/
def checkDone (read : MemRead) (remark : Bool) (s : State) : State :=
  if inStage .check s then
    if checkAgrees s.store read then endStore .ok true .check s else failStore remark s
  else s

/-- 600 ms pass before the check agrees (R178). -/
def storeTimesOut (landed : Nat) (remark : Bool) (s : State) : State :=
  if storing s then failStore remark (onStore (fun st => { st with memory := stageLanded st landed }) s)
  else s

/-! ## Resets (R180 to R182) -/

/-- The software reset (R181): every block at its reset values with its live settings kept. The events
between blocks go with the running state; a hand-over of the autoload still to be taken is no running
state and stays (assumption 7). -/
def softwareReset (s : State) : State :=
  { s with
    shaft := .afterReset s.shaft.settings s.shaft.dvLim s.shaft.dvStop
    channel := s.channel.map fun c => .afterReset c.settings c.phase1 c.phase2
    target := .afterReset s.target.settings s.target.settings.goals
    coupling := .afterReset s.coupling.params
    profile := .afterReset s.profile.threshold
    line := .afterReset s.line.settings
    timer := .afterReset
    link := .afterReset s.link.settings .hunt
    notice := .afterReset s.notice.settings
    mail := { Mail.empty with handover := s.mail.handover } }

/-- A reload (R180): the software reset, then an autoload with the receiver OFF. -/
def startReload (s : State) : State :=
  let r := softwareReset s
  { r with
    link := { r.link with rx := .off }
    store := { r.store with activity := .loading, reloading := true } }

/-- A power-on reset (R182): every block at its power-on values, counters 0, an autoload begun. The settings
memory keeps what it holds, with `landed` bytes of the stage of a store in flight (R179; all 8 bytes of SEAL are a
sealed image, assumption 41). The levels at the
encoder inputs are the outside's. -/
def powerOnReset (landed : Nat) (s : State) : State :=
  { State.reset with
    channel := s.channel.map fun c => .afterReset .default c.phase1 c.phase2
    store := .afterPowerOn (if storing s then stageLanded s.store landed else s.store.memory)
    pending := s.pending }

/-! ## Autoload (R176) -/

/-- Every section of a set of live settings, handed to its block. -/
def handoverOf (x : Settings) : Handover :=
  { shaft := some x.shaft, channel := x.rollers.map some, target := some x.ratio
    coupling := some x.coupling, profile := some x.threshold, line := some x.line
    notice := some x.notice }

/-- The autoload ends with these settings of a valid image, or with none (R176): hand-over, outcome, IDLE,
receiver in SKIP at the link settings loaded, and RELOAD DONE after a reload. -/
def endAutoload (image : Option Settings) (s : State) : State :=
  let x := image.getD .default
  let loaded : State :=
    { s with
      mail := { s.mail with handover := handoverOf x }
      link := { s.link with settings := x.link, rx := .skip, fromOff := true }
      store := { s.store with activity := .idle, reloading := false, lastImage := image.isSome } }
  if s.store.reloading then reportPlain .store (.reloadDone image.isSome) loaded else loaded

/-- The store has read the memory and tested the image (R175, R176). -/
def autoloadEnds (read : MemRead) (s : State) : State :=
  if s.store.activity = .loading then endAutoload ((imageRead s.store.memory read).bind settingsOfImage) s
  else s

/-- 200 ms pass before the autoload completes (R176). -/
def autoloadTimesOut (s : State) : State :=
  if s.store.activity = .loading then endAutoload none s else s

def onHandover (f : Handover → Handover) : State → State := onMail fun m => { m with handover := f m.handover }

/-- A block takes its section of the hand-over, if it has one to take (R176). -/
def takeHandover (block : HandoverTo) (s : State) : State :=
  match block with
  | .shaft =>
    match s.mail.handover.shaft with
    | none => s
    | some x => shaftHandover x (onHandover (fun h => { h with shaft := none }) s)
  | .channel k =>
    match s.mail.handover.channel.get k with
    | none => s
    | some x => channelHandover k x (onHandover (fun h => { h with channel := h.channel.set k none }) s)
  | .target =>
    match s.mail.handover.target with
    | none => s
    | some x => targetHandover x (onHandover (fun h => { h with target := none }) s)
  | .coupling =>
    match s.mail.handover.coupling with
    | none => s
    | some x => couplingHandover x (onHandover (fun h => { h with coupling := none }) s)
  | .profile =>
    match s.mail.handover.profile with
    | none => s
    | some x => profileHandover x (onHandover (fun h => { h with profile := none }) s)
  | .line =>
    match s.mail.handover.line with
    | none => s
    | some x => lineHandover x (onHandover (fun h => { h with line := none }) s)
  | .notice =>
    match s.mail.handover.notice with
    | none => s
    | some x => noticeHandover x (onHandover (fun h => { h with notice := none }) s)

/-! ## Commands -/

/-- RELOAD SETTINGS (R180); the reload acts after the reply (R164). -/
def takeReloadSettings (s : State) : Taking :=
  if storing s then .refused .busy
  else if cellIdle s then .taken s 0 [] (some .reload)
  else .refused .state

/-- RESET (R181); the software reset acts after the reply (R164). -/
def takeReset (s : State) : Taking :=
  if storing s then .refused .busy else .taken s 0 [] (some .reset)

/-- The seven counters of a roller, 4 bytes each (11.3). -/
def rollerCounterBytes (c : RollerCounters) : List Byte :=
  be 4 c.lockLosses ++ be 4 c.encoderFaults ++ be 4 c.overspeedFaults ++ be 4 c.indexFaults ++
  be 4 c.forceFaults ++ be 4 c.saturatedIntervals ++ be 4 c.illegalTransitions

/-- Every counter in the order of the table of R183, 132 bytes (11.3). -/
def counterBytes (c : Counters) : List Byte :=
  be 4 c.framesAccepted ++ be 4 c.framesDiscarded ++ be 4 c.commandsRefused ++ be 4 c.noticesDiscarded ++
  be 4 c.profileUnderruns ++ c.roller.toList.flatMap rollerCounterBytes

/-- READ COUNTERS (R184). -/
def takeReadCounters (option : Nat) (s : State) : Taking :=
  match option with
  | 0 => doneWith s 0 (counterBytes s.store.counters)
  | 1 => doneWith (onCounters (fun _ => .zero) s) 0 (counterBytes s.store.counters)
  | _ => .refused .range

/-- READ IDENTITY (R185). -/
def takeReadIdentity (s : State) : Taking :=
  doneWith s 0
    (be 2 Config.vendorCode ++ be 2 Config.partCode ++ [byte Config.revision] ++
      be 4 Config.serialNumber.toNat)

/-- The stage of the last store: CHECK for OK, 0 for NONE (11.3). -/
def lastStageCode : StoreOutcome → Nat
  | .none => 0
  | .ok => stageCode .check
  | .failed st => stageCode st

/-- READ STATUS (R186). The last autoload outcome is coded as the outcome of RELOAD DONE, 0 IMAGE and 1 DEFAULTS, since
the table of R187 has no row for it: DEDUCED, see assumption 39. -/
def takeReadStatus (s : State) : Taking :=
  doneWith s 0
    ([byte (modeCode s.shaft.mode), byte (stopCauseCode s.shaft.stopCause)] ++
      (s.coupling.roller.toList.map fun r => byte (couplingCode r.state)) ++
      [byte (runCode s.profile.run), byte s.profile.points.length, byte (noticesHeld s.notice),
        flag s.notice.overflow, permitsByte s.line, byte (activityCode s.store.activity),
        (if storing s then byte (stageCode s.store.stage) else 0#8),
        byte (storeOutcomeCode s.store.lastOutcome), byte (lastStageCode s.store.lastOutcome),
        flag (!s.store.lastImage)])

end Sys2Proof.Machine
end

