-- ==== Sys2Proof/Machine/Timer.lean ====
section
/-! DEFINITION. The cell timer (chapter 7). -/

namespace Sys2Proof.Machine

/-- A time mark (R148): counted, dated, and handed to the profile queue and the notice queue. -/
def timeMark (s : State) : State :=
  let n := s.timer.markCount + 1
  reportStamped .timer (.timeMark s.timer.source n)
    (sendTimeMark s.timer.time { s with timer := { s.timer with markCount := n, lastMark := some s.timer.time } })

/-- The compare test (R146). -/
def compareMet (t : Timer) : Bool :=
  decide (t.source = .compare) && decide (t.compare ≠ 0#32) && decide (t.time = t.compare)

/-- The interval expiry of the cell timer (R143). -/
def timerExpiry (s : State) : State :=
  let s' := { s with timer := { s.timer with time := s.timer.time + 1 } }
  if compareMet s'.timer then timeMark s' else s'

/-- A mark edge (R147). -/
def markEdgeTaken (s : State) : State := if s.timer.source = .extMark then timeMark s else s

/-- The next mark edge, if one waits. -/
def takeMarkEdge (s : State) : State :=
  match s.mail.markEdge with
  | 0 => s
  | n + 1 => markEdgeTaken (onMail (fun m => { m with markEdge := n }) s)

/-- SET TIME (R144). -/
def takeSetTime (time : Nat) (s : State) : Taking :=
  if inRange 0 4294967295 time then
    doneWith { s with timer := { s.timer with time := BitVec.ofNat 32 time } } 0
      (be 4 s.timer.time.toNat ++ be 4 time)
  else .refused .range

/-- SET COMPARE (R145). -/
def takeSetCompare (value source : Nat) (s : State) : Taking :=
  match sourceOfCode source with
  | none => .refused .range
  | some src =>
    if inRange 0 4294967295 value then
      doneWith { s with timer := { s.timer with compare := BitVec.ofNat 32 value, source := src } }
        (if src = .compare ∧ value ≠ 0 ∧ value = s.timer.time.toNat then 1 else 0)
        (be 4 s.timer.time.toNat ++ be 4 value ++ [byte (sourceCode src)])
    else .refused .range

/-- READ TIME (R149); an absent last mark time is carried as 0 (R187). -/
def takeReadTime (s : State) : Taking :=
  doneWith s 0
    (be 4 s.timer.time.toNat ++ be 4 s.timer.compare.toNat ++ [byte (sourceCode s.timer.source)] ++
      be 2 s.timer.markCount.toNat ++ [flag s.timer.lastMark.isSome] ++
      be 4 (s.timer.lastMark.getD 0#32).toNat)

end Sys2Proof.Machine
end

