-- ==== Sys2Proof/Machine/Link.lean ====
section
/-! DEFINITION. The message link (chapter 8): the receiver byte by byte, the acceptance of a frame, the
taking of a command and its reply, and what acts after the reply. -/

namespace Sys2Proof.Machine

def onLink (f : Link → Link) (s : State) : State := { s with link := f s.link }

/-- The receiver in this state with no frame being received. -/
def rxTo (rx : RxState) : State → State := onLink fun l => { l with rx := rx, frame := .empty }

/-- A frame is discarded and counted (R154). -/
def discardTo (rx : RxState) (s : State) : State := countDiscarded (rxTo rx s)

/-! ## Commands (R157) -/

/-- SET LINK (R163); the new settings act after the reply (R164). -/
def takeSetLink (l : LinkSettings) (s : State) : Taking :=
  if linkOk l = false then .refused .range
  else if storing s then .refused .busy
  else .taken s (if l = s.link.settings then 1 else 0) (linkBytes l) (some (.setLink l))

/-- The owning block takes or refuses the command; `accepts` is the settings memory's answer to the mark of a
STORE SETTINGS (R177). -/
def runCmd (accepts : Bool) (s : State) : Cmd → Taking
  | .selectMode m => takeSelectMode m s
  | .setRoadLoad r => takeSetRoadLoad r s
  | .setLimits l => takeSetLimits l s
  | .setSpeed v => takeSetSpeed v s
  | .stop => takeStop s
  | .readReference => takeReadReference s
  | .setRoller k form body => takeSetRoller k form body s
  | .readRoller k => takeReadRoller k s
  | .zeroForce k => takeZeroForce k s
  | .setRatio i g => takeSetRatio i g s
  | .selectRatio k n => takeSelectRatio k n s
  | .nudge k d => takeNudge k d s
  | .attach k => takeAttach k s
  | .release k => takeRelease k s
  | .isolate k => takeIsolate k s
  | .acknowledgeRelease k => takeAcknowledge k s
  | .setCoupling p => takeSetCoupling p s
  | .loadPoints n ps => takeLoadPoints n ps s
  | .startProfile c => takeStartProfile c s
  | .abandonProfile => takeAbandonProfile s
  | .clearProfile => takeClearProfile s
  | .setProfile n => takeSetProfile n s
  | .readProfile => takeReadProfile s
  | .routeLine l c => takeRouteLine l c s
  | .setQualifier g p cs => takeSetQualifier g p cs s
  | .driveLines a b c => takeDriveLines a b c s
  | .readLines => takeReadLines s
  | .setTime t => takeSetTime t s
  | .setCompare v src => takeSetCompare v src s
  | .readTime => takeReadTime s
  | .fetchNotices => takeFetchNotices s
  | .setNotices e n sel => takeSetNotices e n sel s
  | .storeSettings => takeStoreSettings accepts s
  | .reloadSettings => takeReloadSettings s
  | .reset => takeReset s
  | .readCounters o => takeReadCounters o s
  | .readIdentity => takeReadIdentity s
  | .readStatus => takeReadStatus s
  | .setLink l => takeSetLink l s

/-- The length check, then the checks of the owning rule (R157). -/
def runChecked (accepts : Bool) (s : State) (c : Cmd) : Taking :=
  if lengthOk c then runCmd accepts s c else .refused .length

/-- A frame's command, or the refusal its kind or length has drawn already (R156, R157). -/
def runFrame (accepts : Bool) (s : State) : Except RefusalCode Cmd → Taking
  | .error code => .refused code
  | .ok c => runChecked accepts s c

/-! ## Effects that act after the reply (R164) -/

/-- SET LINK, RESET and RELOAD SETTINGS act. -/
def actNow (d : Option Deferred) (s : State) : State :=
  match d with
  | none => s
  | some (.setLink l) => rxTo .hunt (onLink (fun x => { x with settings := l }) s)
  | some .reset => softwareReset s
  | some .reload => startReload s

/-! ## Acceptance and replies (R155 to R161) -/

/-- A reply waits to be transmitted: the receiver enters REPLYING (R158). -/
def startReply (r : Reply) (act : Option Deferred) : State → State :=
  onLink fun l => { l with rx := .replying, frame := .empty, reply := some r, deferred := act }

/-- A command accepted at the node address: taken with kind + 0x80 and the class first, or refused with kind
0xFF (R157 to R159). -/
def answer (h : Head) (kind : Byte) (accepts : Bool) (cmd : Except RefusalCode Cmd) (s : State) : State :=
  let node := byte s.link.settings.node
  match runFrame accepts s cmd with
  | .refused code =>
    startReply ⟨node, 0xFF#8, h.tag, [kind, byte (refusalCode code)]⟩ none (countRefused s)
  | .taken s' cls fields act => startReply ⟨node, kind + 0x80#8, h.tag, byte cls :: fields⟩ act s'

/-- A command accepted at the group or broadcast address: the same effects and no reply (R160). -/
def runSilently (accepts : Bool) (cmd : Except RefusalCode Cmd) (s : State) : State :=
  match runFrame accepts s cmd with
  | .refused _ => countRefused s
  | .taken s' _ _ act => actNow act s'

/-- A reply kind, 0x80 or above (R156). -/
def isReplyKind (kind : Byte) : Bool := decide (128 ≤ kind.toNat)

/-- STOP and ISOLATE are accepted from a broadcast (R161). -/
def broadcastKind (kind : Byte) : Bool := decide (kind = 0x14#8) || decide (kind = 0x32#8)

/-- A good frame's address and kind (R155, R156, R161); the receiver leaves the frame. -/
def acceptFrame (h : Head) (kind : Byte) (accepts : Bool) (cmd : Except RefusalCode Cmd) (s : State) : State :=
  let s := rxTo .hunt s
  if h.addr.toNat = s.link.settings.node then
    if isReplyKind kind then countDiscarded s else answer h kind accepts cmd (countAccepted s)
  else if s.link.settings.group ≠ 0 ∧ h.addr.toNat = s.link.settings.group then
    if isReplyKind kind then countDiscarded s else runSilently accepts cmd (countAccepted s)
  else if h.addr = 0#8 then
    if broadcastKind kind then runSilently accepts cmd (countAccepted s) else countDiscarded s
  else s

/-! ## SKIP after an autoload (R165) -/

/-- A byte has come in SKIP: idle time counts from its end on. -/
def idleCounts : State → State := onLink fun l => { l with fromOff := false }

/-- A byte, or a whole frame, comes in SKIP and is ignored (R152). While a section of an autoload waits SKIP has not yet
begun (assumption 10), and then the byte marks no start of idle time either. -/
def skipIgnores (s : State) : State := if handedOver s then idleCounts s else s

/-! ## A whole command frame

A command row of the table stands for one whole good frame of that command on the line, its first byte after
more than 2 ms of idle line and its other bytes within 2 ms of each other (assumption 6). -/

/-- The receiver when the start byte of such a frame arrives (R152, R154): OFF and REPLYING do not take it;
SKIP ends with the idle line before it, once the hand-over is taken (`idlePasses`), unless that idle time may have begun
in OFF (R165, assumption 37), and then the frame's bytes are ignored; a frame left unfinished is discarded. -/
def lineIdleThen (start : State → State) (s : State) : State :=
  match s.link.rx with
  | .off | .replying => s
  | .skip => if handedOver s ∧ s.link.fromOff = false then start s else skipIgnores s
  | .hunt => start s
  | .address | .length | .kind | .tag | .payload | .crcHigh | .crcLow => start (discardTo .hunt s)

/-- A whole frame of command `c` arrives. -/
def deliver (h : Head) (c : Cmd) (accepts : Bool) (s : State) : State :=
  lineIdleThen (acceptFrame h (byte (cmdKind c)) accepts (.ok c)) s

/-! ## The receiver (R152 to R154) -/

/-- The byte taken into the running CRC (R152). -/
def feed (f : RxFrame) (b : Byte) : RxFrame := { f with crc := crc16Byte f.crc b }

/-- The receiver goes on in the frame. -/
def rxOn (rx : RxState) (f : RxFrame) : State → State := onLink fun l => { l with rx := rx, frame := f }

/-- The last CRC byte: the CRC check, then address and kind (R153, R155, R156). -/
def frameComplete (b : Byte) (accepts : Bool) (s : State) : State :=
  let f := s.link.frame
  if crc16Bytes f.crc = [f.crcHigh, b] then
    acceptFrame ⟨f.addr, f.tag⟩ f.kind accepts (cmdOfFrame f.kind.toNat f.payload) s
  else discardTo .hunt s

/-- A byte with a good stop bit is used in the state of the receiver (R152). -/
def byteTaken (b : Byte) (accepts : Bool) (s : State) : State :=
  let f := s.link.frame
  match s.link.rx with
  | .off | .replying => s
  | .skip => skipIgnores s
  | .hunt => if b = 0x5A#8 then rxTo .address s else s
  | .address => rxOn .length (feed { f with addr := b } b) s
  | .length => if 240 < b.toNat then discardTo .skip s else rxOn .kind (feed { f with length := b } b) s
  | .kind => rxOn .tag (feed { f with kind := b } b) s
  | .tag =>
    rxOn (if f.length = 0#8 then .crcHigh else .payload) (feed { f with tag := b } b) s
  | .payload =>
    let payload := f.payload ++ [b]
    rxOn (if f.length.toNat ≤ payload.length then .crcHigh else .payload) (feed { f with payload := payload } b) s
  | .crcHigh => rxOn .crcLow { f with crcHigh := b } s
  | .crcLow => frameComplete b accepts s

/-- The line is idle for more than 2 ms in SKIP (R152, R165). The blocks take the sections of an autoload before the
receiver enters SKIP (R176); the table's row of the autoload's end enters SKIP with the sections still to be taken, so
the receiver stays there until they are: DEDUCED, see assumption 10. -/
def idlePasses (s : State) : State :=
  if s.link.rx = .skip ∧ handedOver s then rxTo .hunt (idleCounts s) else s

/-- The gap, in µs, that ends a frame (R154). -/
def gapLimitUs : Nat := 2000

/-- The gap test made before a byte is used (R154); the same idle line takes the receiver out of SKIP (R152), once the
hand-over is taken (assumption 10). After an autoload the 2 ms count from the entry into SKIP (R165): the gap before the
first byte there may have begun in OFF, so it ends no SKIP, and IDLE TIMEOUT does (assumption 37). -/
def gapTest (gapUs : Nat) (s : State) : State :=
  if gapUs ≤ gapLimitUs then s
  else if inFrame s.link.rx then discardTo .hunt s
  else if s.link.rx = .skip ∧ handedOver s ∧ s.link.fromOff = false then rxTo .hunt s
  else s

/-- A byte with a framing error (R154); in SKIP it is ignored as any byte is (R152). -/
def framingError (s : State) : State :=
  if inFrame s.link.rx then discardTo .skip s else if s.link.rx = .skip then skipIgnores s else s

/-- A byte is received (R152). -/
def byteReceived (b : Byte) (gapUs : Nat) (stopOk accepts : Bool) (s : State) : State :=
  if stopOk then byteTaken b accepts (gapTest gapUs s) else framingError (gapTest gapUs s)

/-- More than 2 ms pass with no byte inside a frame (R154). -/
def gapPasses (s : State) : State := if inFrame s.link.rx then discardTo .hunt s else s

/-! ## Transmitting the reply (R151, R158, R164) -/

/-- The part enables its driver and begins to transmit the reply that waits (R158). -/
def replyStarts (s : State) : State :=
  if s.link.rx = .replying ∧ s.link.reply.isSome then onLink (fun l => { l with driver := true }) s else s

/-- After the stop bit of the last reply byte: the line is released, the receiver hunts, and the deferred
effect acts (R158, R164). -/
def replyEnds (s : State) : State :=
  if s.link.rx = .replying ∧ s.link.driver = true then
    actNow s.link.deferred
      (onLink (fun l =>
        { l with rx := .hunt, frame := .empty, reply := none, driver := false, deferred := none }) s)
  else s

end Sys2Proof.Machine
end

