-- ==== Sys2Proof/Machine/ExecChannel.lean ====
section
/-! DEFINITION. The meanings of the rows of the roller channels (chapter 2). -/

namespace Sys2Proof.Machine

/-- SET ROLLER (R34). -/
def execSetRoller (h : Head) (roller form : Nat) (body : RollerBody) (s : State) :
    Host.Outcome State Fault Refusal :=
  .next (deliver h (.setRoller roller form body) false s)

/-- READ ROLLER (R36). -/
def execReadRoller (h : Head) (roller : Nat) (s : State) : Host.Outcome State Fault Refusal :=
  .next (deliver h (.readRoller roller) false s)

/-- ZERO FORCE (R44). -/
def execZeroForce (h : Head) (roller : Nat) (s : State) : Host.Outcome State Fault Refusal :=
  .next (deliver h (.zeroForce roller) false s)

/-- CHANNEL INTERVAL: the interval expiry of channel `k` (R52). -/
def execChannelInterval (k : Roller) (s : State) : Host.Outcome State Fault Refusal :=
  .next (channelExpiry k s)

/-- FORCE FAULT (R55): the expiry of channel `k` at which the force age reaches 4. Where it would not,
the event has no occasion and nothing happens (assumption 5). -/
def execForceFault (k : Roller) (s : State) : Host.Outcome State Fault Refusal :=
  .next (if forceAgeReaches (s.channel.get k) then channelExpiry k s else s)

/-- ZEROING DONE (R45): the expiry of channel `k` that completes its zeroing (assumption 5). -/
def execZeroingDone (k : Roller) (s : State) : Host.Outcome State Fault Refusal :=
  .next (if zeroingEnds (s.channel.get k) then channelExpiry k s else s)

/-- RELEASE RAMP END (R50): the expiry of channel `k` at which its ramp ends (assumption 5). -/
def execReleaseRampEnd (k : Roller) (s : State) : Host.Outcome State Fault Refusal :=
  .next (if rampEndsNow k s then channelExpiry k s else s)

/-- ENCODER TRANSITION (R37): the levels of the two phases as sampled next. -/
def execEncoderTransition (k : Roller) (phase1 phase2 : Bool) (s : State) :
    Host.Outcome State Fault Refusal :=
  .next (encoderSample k phase1 phase2 s)

/-- FORCE READING (R40, R188): the bytes of a reading as they arrive. -/
def execForceReading (k : Roller) (bytes : List (Nat × Byte)) (s : State) :
    Host.Outcome State Fault Refusal :=
  .next (converterBytes k bytes s)

/-- INDEX EDGE (R56): the next index edge of channel `k`. -/
def execIndexEdge (k : Roller) (s : State) : Host.Outcome State Fault Refusal :=
  .next (takeIndexEdge k s)

/-- CHANNEL COUPLING CHANGE (R47): the next coupling change of channel `k`. -/
def execChannelCouplingChange (k : Roller) (s : State) : Host.Outcome State Fault Refusal :=
  .next (takeChannelChange k s)

end Sys2Proof.Machine
end

