-- ==== Sys2Proof/Machine/ExecCoupling.lean ====
section
/-! DEFINITION. The meanings of the rows of the coupling controller (chapter 4). -/

namespace Sys2Proof.Machine

/-- ATTACH (R78). -/
def execAttach (h : Head) (roller : Nat) (s : State) : Host.Outcome State Fault Refusal :=
  .next (deliver h (.attach roller) false s)

/-- RELEASE (R85). -/
def execRelease (h : Head) (roller : Nat) (s : State) : Host.Outcome State Fault Refusal :=
  .next (deliver h (.release roller) false s)

/-- ISOLATE (R90). -/
def execIsolate (h : Head) (roller : Nat) (s : State) : Host.Outcome State Fault Refusal :=
  .next (deliver h (.isolate roller) false s)

/-- ACKNOWLEDGE RELEASE (R92). -/
def execAcknowledgeRelease (h : Head) (roller : Nat) (s : State) : Host.Outcome State Fault Refusal :=
  .next (deliver h (.acknowledgeRelease roller) false s)

/-- SET COUPLING (R76). -/
def execSetCoupling (h : Head) (p : Option CouplingParams) (s : State) : Host.Outcome State Fault Refusal :=
  .next (deliver h (.setCoupling p) false s)

/-- COUPLING INTERVAL: the interval expiry of the coupling controller (R74). -/
def execCouplingInterval (s : State) : Host.Outcome State Fault Refusal :=
  .next (couplingExpiry s)

/-- ATTACH TIMEOUT (R79): the expiry at which the attach timer of roller `k` reaches T_att
(assumption 5). -/
def execAttachTimeout (k : Roller) (s : State) : Host.Outcome State Fault Refusal :=
  .next (if attachTimesOut k s then couplingExpiry s else s)

/-- LOCK TIMEOUT (R83): the expiry at which the loss timer of roller `k` reaches T_loss (assumption 5). -/
def execLockTimeout (k : Roller) (s : State) : Host.Outcome State Fault Refusal :=
  .next (if lockTimesOut k s then couplingExpiry s else s)

/-- NOT SETTLED (R87): the expiry at which the release timer of roller `k` reaches T_rel (assumption 5). -/
def execNotSettled (k : Roller) (s : State) : Host.Outcome State Fault Refusal :=
  .next (if releaseTimesOut k s then couplingExpiry s else s)

/-- SKEW FAULT (R97): the expiry at which the skew count reaches the flywheel (assumption 5). -/
def execSkewFault (s : State) : Host.Outcome State Fault Refusal :=
  .next (if skewFires s.coupling then couplingExpiry s else s)

/-- MEASUREMENT ARRIVAL (R74): the next message of channel `k`, a measurement record. -/
def execMeasurementArrival (k : Roller) (s : State) : Host.Outcome State Fault Refusal :=
  .next (takeMeasurement k s)

/-- MATCHED (R81): the arrival at which the match count reaches N_m (assumption 5). -/
def execMatched (k : Roller) (s : State) : Host.Outcome State Fault Refusal :=
  .next (if nextCountReaches k .matching s then takeMeasurement k s else s)

/-- LOCK LOSS (R82): the arrival at which the loss count reaches N_l (assumption 5). -/
def execLockLoss (k : Roller) (s : State) : Host.Outcome State Fault Refusal :=
  .next (if nextCountReaches k .locked s then takeMeasurement k s else s)

/-- RELOCKED (R83): the arrival at which the relock count reaches N_r (assumption 5). -/
def execRelocked (k : Roller) (s : State) : Host.Outcome State Fault Refusal :=
  .next (if nextCountReaches k .lostLock s then takeMeasurement k s else s)

/-- SETTLED (R86): the arrival at which the settle count reaches N_s (assumption 5). -/
def execSettled (k : Roller) (s : State) : Host.Outcome State Fault Refusal :=
  .next (if nextCountReaches k .releasing s then takeMeasurement k s else s)

/-- RAMP END (R86): the next message of channel `k`, a ramp end. -/
def execRampEnd (k : Roller) (s : State) : Host.Outcome State Fault Refusal :=
  .next (takeRampEnd k s)

/-- FAULT HANDOFF (R88): the next fault handed off by channel `k`. -/
def execFaultHandoff (k : Roller) (s : State) : Host.Outcome State Fault Refusal :=
  .next (takeFault k s)

/-- COUPLING RUN PERMIT CHANGE (R74, R91): the next run permit event. -/
def execCouplingRunPermitChange (s : State) : Host.Outcome State Fault Refusal :=
  .next (takeCouplingPermit s)

/-- ROLLER PERMIT CHANGE (R89): the next roller permit event of roller `k`. -/
def execRollerPermitChange (k : Roller) (s : State) : Host.Outcome State Fault Refusal :=
  .next (takeRollerPermit k s)

end Sys2Proof.Machine
end

