-- ==== Sys2Proof/Machine/ExecLine.lean ====
section
/-! DEFINITION. The meanings of the rows of the line unit (chapter 6). -/

namespace Sys2Proof.Machine

/-- ROUTE LINE (R138). -/
def execRouteLine (h : Head) (line code : Nat) (s : State) : Host.Outcome State Fault Refusal :=
  .next (deliver h (.routeLine line code) false s)

/-- SET QUALIFIER (R139). -/
def execSetQualifier (h : Head) (group period : Nat) (counts : Eight Nat) (s : State) :
    Host.Outcome State Fault Refusal :=
  .next (deliver h (.setQualifier group period counts) false s)

/-- DRIVE LINES (R136). -/
def execDriveLines (h : Head) (set clear toggle : BitVec 24) (s : State) :
    Host.Outcome State Fault Refusal :=
  .next (deliver h (.driveLines set clear toggle) false s)

/-- READ LINES (R140). -/
def execReadLines (h : Head) (s : State) : Host.Outcome State Fault Refusal :=
  .next (deliver h .readLines false s)

/-- GROUP SAMPLE (R124): the eight lines of the group sampled. -/
def execGroupSample (g : Group) (levels : Eight Bool) (s : State) : Host.Outcome State Fault Refusal :=
  .next (groupSampled g levels s)

/-- LINE QUALIFIED (R123): the sample of its group at which the qualified value of the line changes
(assumption 5). -/
def execLineQualified (l : LineId) (levels : Eight Bool) (s : State) : Host.Outcome State Fault Refusal :=
  .next (if qualifiesNow l levels s.line then groupSampled l.group levels s else s)

/-- LINE COUPLING CHANGE (R132): the next coupling change of roller `k`. -/
def execLineCouplingChange (k : Roller) (s : State) : Host.Outcome State Fault Refusal :=
  .next (takeLineChange k s)

/-- RUN LAMP RECORD (R133): the mode of the next published reference record. -/
def execRunLampRecord (s : State) : Host.Outcome State Fault Refusal :=
  .next (takeRunLamp s)

/-- MARK_OUT REPORT (R134): the next change of MARK_OUT. -/
def execMarkOutReport (s : State) : Host.Outcome State Fault Refusal :=
  .next (takeMarkOut s)

end Sys2Proof.Machine
end

