-- ==== Sys2Proof/Machine/ExecLink.lean ====
section
/-! DEFINITION. The meanings of the rows of the message link (chapter 8). -/

namespace Sys2Proof.Machine

/-- SET LINK (R163). -/
def execSetLink (h : Head) (l : LinkSettings) (s : State) : Host.Outcome State Fault Refusal :=
  .next (deliver h (.setLink l) false s)

/-- RECEIVE BYTE (R152). -/
def execReceiveByte (b : Byte) (gapUs : Nat) (stopOk accepts : Bool) (s : State) :
    Host.Outcome State Fault Refusal :=
  .next (byteReceived b gapUs stopOk accepts s)

/-- GAP TIMEOUT (R154). -/
def execGapTimeout (s : State) : Host.Outcome State Fault Refusal :=
  .next (gapPasses s)

/-- IDLE TIMEOUT (R165). -/
def execIdleTimeout (s : State) : Host.Outcome State Fault Refusal :=
  .next (idlePasses s)

/-- REPLY START (R158). -/
def execReplyStart (s : State) : Host.Outcome State Fault Refusal :=
  .next (replyStarts s)

/-- REPLY COMPLETE (R164). -/
def execReplyComplete (s : State) : Host.Outcome State Fault Refusal :=
  .next (replyEnds s)

end Sys2Proof.Machine
end

