-- ==== Sys2Proof/Machine/ExecNotice.lean ====
section
/-! DEFINITION. The meanings of the rows of the notice queue (chapter 9). -/

namespace Sys2Proof.Machine

/-- FETCH NOTICES (R171). -/
def execFetchNotices (h : Head) (s : State) : Host.Outcome State Fault Refusal :=
  .next (deliver h .fetchNotices false s)

/-- SET NOTICES (R169). -/
def execSetNotices (h : Head) (enable : BitVec 16) (period : Nat) (selection : BitVec 24) (s : State) :
    Host.Outcome State Fault Refusal :=
  .next (deliver h (.setNotices enable period selection) false s)

/-- NOTICE REPORT (R168): the next report of a sender. -/
def execNoticeReport (sender : Sender) (s : State) : Host.Outcome State Fault Refusal :=
  .next (takeReport sender s)

/-- REFERENCE RECORD TAKEN (R167): the next reference record handed to the queue. -/
def execReferenceRecordTaken (s : State) : Host.Outcome State Fault Refusal :=
  .next (takeRecord s)

/-- SHAFT SAMPLE (R167): the record at which the sample count reaches N (assumption 5). -/
def execShaftSample (s : State) : Host.Outcome State Fault Refusal :=
  .next (if nextSampleDue s then takeRecord s else s)

/-- NOTICE COUPLING CHANGE (R73): the next coupling change of roller `k`. -/
def execNoticeCouplingChange (k : Roller) (s : State) : Host.Outcome State Fault Refusal :=
  .next (takeNoticeChange k s)

end Sys2Proof.Machine
end

