-- ==== Sys2Proof/Machine/ExecProfile.lean ====
section
/-! DEFINITION. The meanings of the rows of the profile queue (chapter 5). -/

namespace Sys2Proof.Machine

/-- LOAD POINTS (R100). -/
def execLoadPoints (h : Head) (count : Nat) (points : List Byte) (s : State) :
    Host.Outcome State Fault Refusal :=
  .next (deliver h (.loadPoints count points) false s)

/-- START PROFILE (R105). -/
def execStartProfile (h : Head) (condition : Nat) (s : State) : Host.Outcome State Fault Refusal :=
  .next (deliver h (.startProfile condition) false s)

/-- ABANDON PROFILE (R115). -/
def execAbandonProfile (h : Head) (s : State) : Host.Outcome State Fault Refusal :=
  .next (deliver h .abandonProfile false s)

/-- CLEAR PROFILE (R117). -/
def execClearProfile (h : Head) (s : State) : Host.Outcome State Fault Refusal :=
  .next (deliver h .clearProfile false s)

/-- SET PROFILE (R118). -/
def execSetProfile (h : Head) (threshold : Nat) (s : State) : Host.Outcome State Fault Refusal :=
  .next (deliver h (.setProfile threshold) false s)

/-- READ PROFILE (R119). -/
def execReadProfile (h : Head) (s : State) : Host.Outcome State Fault Refusal :=
  .next (deliver h .readProfile false s)

/-- PROFILE INTERVAL: the interval expiry of the profile queue (R108). -/
def execProfileInterval (s : State) : Host.Outcome State Fault Refusal :=
  .next (profileExpiry s)

/-- POINT REACHED (R110): the expiry at which the elapsed count reaches the duration (assumption 5). -/
def execPointReached (s : State) : Host.Outcome State Fault Refusal :=
  .next (if pointReachedNow s.profile then profileExpiry s else s)

/-- MARK_OUT PULSE END (R111): the expiry at which the pulse count reaches 0 (assumption 5). -/
def execMarkOutPulseEnd (s : State) : Host.Outcome State Fault Refusal :=
  .next (if s.profile.pulse = 1 then profileExpiry s else s)

/-- PROFILE TIME MARK (R107): the next time mark. -/
def execProfileTimeMark (s : State) : Host.Outcome State Fault Refusal :=
  .next (takeProfileMark s)

/-- PROFILE ABANDONMENT (R116): the next abandonment from the shaft model. -/
def execProfileAbandonment (s : State) : Host.Outcome State Fault Refusal :=
  .next (takeProfileAbandonment s)

end Sys2Proof.Machine
end

