-- ==== Sys2Proof/Machine/ExecShaft.lean ====
section
/-! DEFINITION. The meanings of the rows of the shaft model (chapter 1). -/

namespace Sys2Proof.Machine

/-- SELECT MODE (R4, R5). -/
def execSelectMode (h : Head) (mode : Nat) (s : State) : Host.Outcome State Fault Refusal :=
  .next (deliver h (.selectMode mode) false s)

/-- SET ROAD LOAD (R13). -/
def execSetRoadLoad (h : Head) (r : RoadLoad) (s : State) : Host.Outcome State Fault Refusal :=
  .next (deliver h (.setRoadLoad r) false s)

/-- SET LIMITS (R14). -/
def execSetLimits (h : Head) (l : Limits) (s : State) : Host.Outcome State Fault Refusal :=
  .next (deliver h (.setLimits l) false s)

/-- SET SPEED (R15). -/
def execSetSpeed (h : Head) (v : Int) (s : State) : Host.Outcome State Fault Refusal :=
  .next (deliver h (.setSpeed v) false s)

/-- STOP (R7). -/
def execStop (h : Head) (s : State) : Host.Outcome State Fault Refusal :=
  .next (deliver h .stop false s)

/-- READ REFERENCE (R31). -/
def execReadReference (h : Head) (s : State) : Host.Outcome State Fault Refusal :=
  .next (deliver h .readReference false s)

/-- SHAFT INTERVAL: the interval expiry of the shaft model (R18). -/
def execShaftInterval (s : State) : Host.Outcome State Fault Refusal :=
  .next (shaftInterval s)

/-- SHAFT RUN PERMIT CHANGE (R8): the next run permit event. -/
def execShaftRunPermitChange (s : State) : Host.Outcome State Fault Refusal :=
  .next (takeShaftPermit s)

/-- SHAFT COUPLING CHANGE (R3): the next coupling change of roller `k`. -/
def execShaftCouplingChange (k : Roller) (s : State) : Host.Outcome State Fault Refusal :=
  .next (takeShaftChange k s)

/-- SHAFT SKEW FAULT (R97): the next shaft skew fault. -/
def execShaftSkewFault (s : State) : Host.Outcome State Fault Refusal :=
  .next (takeShaftSkew s)

/-- SHAFT PROFILE FINISH (R10): the run ending next in order, a finish. -/
def execShaftProfileFinish (s : State) : Host.Outcome State Fault Refusal :=
  .next (takeShaftFinish s)

/-- SHAFT PROFILE STARVED (R113): the run ending next in order, a starvation. -/
def execShaftProfileStarved (s : State) : Host.Outcome State Fault Refusal :=
  .next (takeShaftStarvation s)

/-- SHAFT PROFILE ABANDON (R10): the run ending next in order, an abandonment by command. -/
def execShaftProfileAbandon (s : State) : Host.Outcome State Fault Refusal :=
  .next (takeShaftAbandonment s)

end Sys2Proof.Machine
end

