-- ==== Sys2Proof/Machine/ExecStore.lean ====
section
/-! DEFINITION. The meanings of the rows of the settings store (chapter 10). -/

namespace Sys2Proof.Machine

/-- STORE SETTINGS (R177). -/
def execStoreSettings (h : Head) (accepts : Bool) (s : State) : Host.Outcome State Fault Refusal :=
  .next (deliver h .storeSettings accepts s)

/-- RELOAD SETTINGS (R180). -/
def execReloadSettings (h : Head) (s : State) : Host.Outcome State Fault Refusal :=
  .next (deliver h .reloadSettings false s)

/-- RESET (R181). -/
def execReset (h : Head) (s : State) : Host.Outcome State Fault Refusal :=
  .next (deliver h .reset false s)

/-- READ COUNTERS (R184). -/
def execReadCounters (h : Head) (option : Nat) (s : State) : Host.Outcome State Fault Refusal :=
  .next (deliver h (.readCounters option) false s)

/-- READ IDENTITY (R185). -/
def execReadIdentity (h : Head) (s : State) : Host.Outcome State Fault Refusal :=
  .next (deliver h .readIdentity false s)

/-- READ STATUS (R186). -/
def execReadStatus (h : Head) (s : State) : Host.Outcome State Fault Refusal :=
  .next (deliver h .readStatus false s)

/-- STORE WRITE DONE (R178). -/
def execStoreWriteDone (accepted : Bool) (landed : Nat) (remark : Bool) (s : State) :
    Host.Outcome State Fault Refusal :=
  .next (writeDone accepted landed remark s)

/-- STORE SEAL DONE (R178). -/
def execStoreSealDone (accepted : Bool) (landed : Nat) (remark : Bool) (s : State) :
    Host.Outcome State Fault Refusal :=
  .next (sealDone accepted landed remark s)

/-- STORE CHECK DONE (R178). -/
def execStoreCheckDone (readBack : MemRead) (remark : Bool) (s : State) :
    Host.Outcome State Fault Refusal :=
  .next (checkDone readBack remark s)

/-- STORE TIMEOUT (R178). -/
def execStoreTimeout (landed : Nat) (remark : Bool) (s : State) : Host.Outcome State Fault Refusal :=
  .next (storeTimesOut landed remark s)

/-- POWER-ON RESET (R182). -/
def execPowerOnReset (landed : Nat) (s : State) : Host.Outcome State Fault Refusal :=
  .next (powerOnReset landed s)

/-- AUTOLOAD END (R176). -/
def execAutoloadEnd (read : MemRead) (s : State) : Host.Outcome State Fault Refusal :=
  .next (autoloadEnds read s)

/-- AUTOLOAD TIMEOUT (R176). -/
def execAutoloadTimeout (s : State) : Host.Outcome State Fault Refusal :=
  .next (autoloadTimesOut s)

/-- SETTINGS HANDOVER (R176): a block takes its section. -/
def execSettingsHandover (block : HandoverTo) (s : State) : Host.Outcome State Fault Refusal :=
  .next (takeHandover block s)

end Sys2Proof.Machine
end

