-- ==== Sys2Proof/Machine/ExecTarget.lean ====
section
/-! DEFINITION. The meanings of the rows of target formation (chapter 3). -/

namespace Sys2Proof.Machine

/-- SET RATIO (R60). -/
def execSetRatio (h : Head) (entry : Nat) (goal : Int) (s : State) : Host.Outcome State Fault Refusal :=
  .next (deliver h (.setRatio entry goal) false s)

/-- SELECT RATIO (R61). -/
def execSelectRatio (h : Head) (roller select : Nat) (s : State) : Host.Outcome State Fault Refusal :=
  .next (deliver h (.selectRatio roller select) false s)

/-- NUDGE (R69). -/
def execNudge (h : Head) (roller : Nat) (displacement : Int) (s : State) :
    Host.Outcome State Fault Refusal :=
  .next (deliver h (.nudge roller displacement) false s)

/-- TARGET INTERVAL: the interval expiry of target formation (R63). -/
def execTargetInterval (s : State) : Host.Outcome State Fault Refusal :=
  .next (targetExpiry s)

/-- TARGET COUPLING CHANGE (R62): the next coupling change of roller `k`. -/
def execTargetCouplingChange (k : Roller) (s : State) : Host.Outcome State Fault Refusal :=
  .next (takeTargetChange k s)

end Sys2Proof.Machine
end

