-- ==== Sys2Proof/Machine/ExecTimer.lean ====
section
/-! DEFINITION. The meanings of the rows of the cell timer (chapter 7). -/

namespace Sys2Proof.Machine

/-- SET TIME (R144). -/
def execSetTime (h : Head) (time : Nat) (s : State) : Host.Outcome State Fault Refusal :=
  .next (deliver h (.setTime time) false s)

/-- SET COMPARE (R145). -/
def execSetCompare (h : Head) (value source : Nat) (s : State) : Host.Outcome State Fault Refusal :=
  .next (deliver h (.setCompare value source) false s)

/-- READ TIME (R149). -/
def execReadTime (h : Head) (s : State) : Host.Outcome State Fault Refusal :=
  .next (deliver h .readTime false s)

/-- CELL TIMER INTERVAL: the interval expiry of the cell timer (R143). -/
def execCellTimerInterval (s : State) : Host.Outcome State Fault Refusal :=
  .next (timerExpiry s)

/-- MARK EDGE (R147): the next mark edge. -/
def execMarkEdge (s : State) : Host.Outcome State Fault Refusal :=
  .next (takeMarkEdge s)

end Sys2Proof.Machine
end

