-- ==== Sys2Proof/Machine/Dispatch.lean ====
section
/-! DEFINITION. One arm per row of the opcode table. -/

namespace Sys2Proof.Machine

def exec (i : Instr) (s : State) : Host.Outcome State Fault Refusal :=
  match i with
  | .selectMode h mode => Sys2Proof.Machine.execSelectMode h mode s
  | .setRoadLoad h r => Sys2Proof.Machine.execSetRoadLoad h r s
  | .setLimits h l => Sys2Proof.Machine.execSetLimits h l s
  | .setSpeed h v => Sys2Proof.Machine.execSetSpeed h v s
  | .stop h => Sys2Proof.Machine.execStop h s
  | .readReference h => Sys2Proof.Machine.execReadReference h s
  | .setRoller h roller form body => Sys2Proof.Machine.execSetRoller h roller form body s
  | .readRoller h roller => Sys2Proof.Machine.execReadRoller h roller s
  | .zeroForce h roller => Sys2Proof.Machine.execZeroForce h roller s
  | .setRatio h entry goal => Sys2Proof.Machine.execSetRatio h entry goal s
  | .selectRatio h roller select => Sys2Proof.Machine.execSelectRatio h roller select s
  | .nudge h roller displacement => Sys2Proof.Machine.execNudge h roller displacement s
  | .attach h roller => Sys2Proof.Machine.execAttach h roller s
  | .release h roller => Sys2Proof.Machine.execRelease h roller s
  | .isolate h roller => Sys2Proof.Machine.execIsolate h roller s
  | .acknowledgeRelease h roller => Sys2Proof.Machine.execAcknowledgeRelease h roller s
  | .setCoupling h p => Sys2Proof.Machine.execSetCoupling h p s
  | .loadPoints h count points => Sys2Proof.Machine.execLoadPoints h count points s
  | .startProfile h condition => Sys2Proof.Machine.execStartProfile h condition s
  | .abandonProfile h => Sys2Proof.Machine.execAbandonProfile h s
  | .clearProfile h => Sys2Proof.Machine.execClearProfile h s
  | .setProfile h threshold => Sys2Proof.Machine.execSetProfile h threshold s
  | .readProfile h => Sys2Proof.Machine.execReadProfile h s
  | .routeLine h line code => Sys2Proof.Machine.execRouteLine h line code s
  | .setQualifier h group period counts => Sys2Proof.Machine.execSetQualifier h group period counts s
  | .driveLines h set clear toggle => Sys2Proof.Machine.execDriveLines h set clear toggle s
  | .readLines h => Sys2Proof.Machine.execReadLines h s
  | .setTime h time => Sys2Proof.Machine.execSetTime h time s
  | .setCompare h value source => Sys2Proof.Machine.execSetCompare h value source s
  | .readTime h => Sys2Proof.Machine.execReadTime h s
  | .fetchNotices h => Sys2Proof.Machine.execFetchNotices h s
  | .setNotices h enable period selection => Sys2Proof.Machine.execSetNotices h enable period selection s
  | .storeSettings h accepts => Sys2Proof.Machine.execStoreSettings h accepts s
  | .reloadSettings h => Sys2Proof.Machine.execReloadSettings h s
  | .reset h => Sys2Proof.Machine.execReset h s
  | .readCounters h option => Sys2Proof.Machine.execReadCounters h option s
  | .readIdentity h => Sys2Proof.Machine.execReadIdentity h s
  | .readStatus h => Sys2Proof.Machine.execReadStatus h s
  | .setLink h l => Sys2Proof.Machine.execSetLink h l s
  | .receiveByte b gapUs stopOk accepts => Sys2Proof.Machine.execReceiveByte b gapUs stopOk accepts s
  | .gapTimeout => Sys2Proof.Machine.execGapTimeout s
  | .idleTimeout => Sys2Proof.Machine.execIdleTimeout s
  | .replyStart => Sys2Proof.Machine.execReplyStart s
  | .replyComplete => Sys2Proof.Machine.execReplyComplete s
  | .shaftInterval => Sys2Proof.Machine.execShaftInterval s
  | .channelInterval k => Sys2Proof.Machine.execChannelInterval k s
  | .forceFault k => Sys2Proof.Machine.execForceFault k s
  | .zeroingDone k => Sys2Proof.Machine.execZeroingDone k s
  | .releaseRampEnd k => Sys2Proof.Machine.execReleaseRampEnd k s
  | .encoderTransition k phase1 phase2 => Sys2Proof.Machine.execEncoderTransition k phase1 phase2 s
  | .forceReading k bytes => Sys2Proof.Machine.execForceReading k bytes s
  | .indexEdge k => Sys2Proof.Machine.execIndexEdge k s
  | .channelCouplingChange k => Sys2Proof.Machine.execChannelCouplingChange k s
  | .targetInterval => Sys2Proof.Machine.execTargetInterval s
  | .targetCouplingChange k => Sys2Proof.Machine.execTargetCouplingChange k s
  | .couplingInterval => Sys2Proof.Machine.execCouplingInterval s
  | .attachTimeout k => Sys2Proof.Machine.execAttachTimeout k s
  | .lockTimeout k => Sys2Proof.Machine.execLockTimeout k s
  | .notSettled k => Sys2Proof.Machine.execNotSettled k s
  | .skewFault => Sys2Proof.Machine.execSkewFault s
  | .measurementArrival k => Sys2Proof.Machine.execMeasurementArrival k s
  | .matched k => Sys2Proof.Machine.execMatched k s
  | .lockLoss k => Sys2Proof.Machine.execLockLoss k s
  | .relocked k => Sys2Proof.Machine.execRelocked k s
  | .settled k => Sys2Proof.Machine.execSettled k s
  | .rampEnd k => Sys2Proof.Machine.execRampEnd k s
  | .faultHandoff k => Sys2Proof.Machine.execFaultHandoff k s
  | .couplingRunPermitChange => Sys2Proof.Machine.execCouplingRunPermitChange s
  | .rollerPermitChange k => Sys2Proof.Machine.execRollerPermitChange k s
  | .shaftRunPermitChange => Sys2Proof.Machine.execShaftRunPermitChange s
  | .shaftCouplingChange k => Sys2Proof.Machine.execShaftCouplingChange k s
  | .shaftSkewFault => Sys2Proof.Machine.execShaftSkewFault s
  | .shaftProfileFinish => Sys2Proof.Machine.execShaftProfileFinish s
  | .shaftProfileStarved => Sys2Proof.Machine.execShaftProfileStarved s
  | .shaftProfileAbandon => Sys2Proof.Machine.execShaftProfileAbandon s
  | .profileInterval => Sys2Proof.Machine.execProfileInterval s
  | .pointReached => Sys2Proof.Machine.execPointReached s
  | .markOutPulseEnd => Sys2Proof.Machine.execMarkOutPulseEnd s
  | .profileTimeMark => Sys2Proof.Machine.execProfileTimeMark s
  | .profileAbandonment => Sys2Proof.Machine.execProfileAbandonment s
  | .groupSample g levels => Sys2Proof.Machine.execGroupSample g levels s
  | .lineQualified l levels => Sys2Proof.Machine.execLineQualified l levels s
  | .lineCouplingChange k => Sys2Proof.Machine.execLineCouplingChange k s
  | .runLampRecord => Sys2Proof.Machine.execRunLampRecord s
  | .markOutReport => Sys2Proof.Machine.execMarkOutReport s
  | .cellTimerInterval => Sys2Proof.Machine.execCellTimerInterval s
  | .markEdge => Sys2Proof.Machine.execMarkEdge s
  | .noticeReport sender => Sys2Proof.Machine.execNoticeReport sender s
  | .referenceRecordTaken => Sys2Proof.Machine.execReferenceRecordTaken s
  | .shaftSample => Sys2Proof.Machine.execShaftSample s
  | .noticeCouplingChange k => Sys2Proof.Machine.execNoticeCouplingChange k s
  | .storeWriteDone accepted landed remark => Sys2Proof.Machine.execStoreWriteDone accepted landed remark s
  | .storeSealDone accepted landed remark => Sys2Proof.Machine.execStoreSealDone accepted landed remark s
  | .storeCheckDone readBack remark => Sys2Proof.Machine.execStoreCheckDone readBack remark s
  | .storeTimeout landed remark => Sys2Proof.Machine.execStoreTimeout landed remark s
  | .powerOnReset landed => Sys2Proof.Machine.execPowerOnReset landed s
  | .autoloadEnd read => Sys2Proof.Machine.execAutoloadEnd read s
  | .autoloadTimeout => Sys2Proof.Machine.execAutoloadTimeout s
  | .settingsHandover block => Sys2Proof.Machine.execSettingsHandover block s

end Sys2Proof.Machine
end

