-- ==== Sys2Proof/Machine/Step.lean ====
section
/-! DEFINITION. The step: the command or event at the front of the waiting queue. -/

namespace Sys2Proof.Machine

/-- The command or event at the front of the queue runs with the queue's rest waiting; with nothing waiting the
part idles. DESIGN CHOICE; see assumption 1. -/
def step (s : State) : Host.Outcome State Fault Refusal :=
  match s.pending with
  | [] => .next s
  | i :: rest => exec i { s with pending := rest }

/-- The state with the command that a word spells put in front of its queue; unchanged where the word spells
none. The table gives no row any bits, so no word spells a command (assumption 3). -/
def State.withFetchWord (s : State) (nbits w : Nat) : State :=
  match decodeTableWord nbits w with
  | none => s
  | some i => { s with pending := i :: s.pending }

end Sys2Proof.Machine
end

