-- ==== Sys2Proof/Safety.lean ====
section
/-! DEFINITION. The laws of the part as predicates over a state: what the rules call "a law of the part",
and the invariants that carry them. -/

namespace Sys2Proof.Machine

/-! ## Shaft model (R2, R25, R28) -/

/-- The reference speed lies within −v_rev … v_max, and is 0 in IDLE (R25, R28). -/
def speedLawful (sh : Shaft) : Bool :=
  inRange (-(sh.settings.limits.vRev : Int) * q16) ((sh.settings.limits.vMax : Int) * q16) sh.speed &&
    (decide (sh.mode ≠ .idle) || decide (sh.speed = 0))

/-- The shaft settings lie in the ranges of R12, and the limits formed from them are those of R16. -/
def shaftSettingsLawful (sh : Shaft) : Bool :=
  roadLoadOk sh.settings.road && limitsOk sh.settings.limits &&
    speedOk sh.settings.limits sh.settings.setpoint && decide (sh.dvLim = dvOf sh.settings.limits.aLim) &&
    decide (sh.dvStop = dvOf sh.settings.limits.aStop)

/-! ## Roller channels (R41, R43, R51) -/

/-- A force record is marked contributing exactly when the channel's view is an attached state (R43), and its
force is the clamped one (R41). -/
def forceLawful (c : Channel) : Bool :=
  decide (c.forceRecord.contributing = attached c.view) && inRange (-200000) 200000 c.force &&
    inRange (-200000) 200000 c.forceRecord.force

/-- Demand 0 with enable 0 in DETACHED, PENDING_ATTACH and RELEASED_UNACK; demand 0 whenever enable is 0, on
the drive link too (R49, R51, 11.7). -/
def demandLawful (c : Channel) : Bool :=
  (!undriven c.view || (!c.enable && decide (c.demand = 0))) && (c.enable || decide (c.demand = 0)) &&
    (match c.frame with
      | none => true
      | some f => f.enable || decide (f.demand = 0))

/-! ## Coupling views (R73) -/

/-- Changes that wait follow one another from the view held to the state held: each begins where the one
before it ended (R73). -/
def chained (from' : CouplingState) : List Change → CouplingState → Bool
  | [], state => decide (from' = state)
  | c :: cs, state => decide (c.previous = from') && chained c.new cs state

/-- The five receivers of roller `k`'s coupling changes are told of these changes, in order (R73). -/
def told (s t : State) (k : Roller) (cs : List Change) : Prop :=
  t.mail.changeToChannel.get k = s.mail.changeToChannel.get k ++ cs ∧
    t.mail.changeToTarget.get k = s.mail.changeToTarget.get k ++ cs ∧
    t.mail.changeToShaft.get k = s.mail.changeToShaft.get k ++ cs ∧
    t.mail.changeToLine.get k = s.mail.changeToLine.get k ++ cs ∧
    t.mail.changeToNotice.get k = s.mail.changeToNotice.get k ++ cs

/-- Of the events that wait, only the coupling changes to their five receivers differ (R73). -/
def onlyChangesSent (m n : Mail) : Prop :=
  n = { m with
    changeToChannel := n.changeToChannel, changeToTarget := n.changeToTarget, changeToShaft := n.changeToShaft
    changeToLine := n.changeToLine, changeToNotice := n.changeToNotice }

/-- What a receiver last took: the previous state of the first change that waits, or the state held. -/
def viewBefore (waiting : List Change) (state : CouplingState) : CouplingState :=
  match waiting with
  | [] => state
  | c :: _ => c.previous

/-- The views of one roller follow its coupling state: a receiver that takes every change that waits for it
holds the state the coupling controller holds (R73). -/
def viewsFollow (s : State) (k : Roller) : Bool :=
  let state := (s.coupling.roller.get k).state
  chained (s.channel.get k).view (s.mail.changeToChannel.get k) state &&
    chained (s.target.roller.get k).view (s.mail.changeToTarget.get k) state &&
    chained (s.line.view.get k) (s.mail.changeToLine.get k) state &&
    chained (s.notice.view.get k) (s.mail.changeToNotice.get k) state &&
    chained (viewBefore (s.mail.changeToShaft.get k) state) (s.mail.changeToShaft.get k) state

/-- A roller counted as contributing by the shaft model (R3). -/
def countedAttached (s : State) (k : Roller) : Nat :=
  if attached (viewBefore (s.mail.changeToShaft.get k) (s.coupling.roller.get k).state) then 1 else 0

/-- The contributing roller count is the number of rollers attached as far as the shaft model has been told
(R3). -/
def contributingLawful (s : State) : Bool :=
  decide (s.shaft.contributing =
    countedAttached s .fl + countedAttached s .fr + countedAttached s .rl + countedAttached s .rr)

/-- The demand, and a ramp from it, lie within D_max (R50, R51), unless a change of the roller to an undriven state
still waits for the channel; and the channel's view follows the coupling state (R73). -/
def demandBounded (s : State) (k : Roller) : Bool :=
  let c := s.channel.get k
  let waiting := s.mail.changeToChannel.get k
  let limit : Int := c.settings.dMax
  chained c.view waiting (s.coupling.roller.get k).state &&
    (!undriven c.view || (decide (c.demand = 0) && decide (c.ramp = none))) &&
    (waiting.any (fun e => undriven e.new) ||
      (decide (mag c.demand ≤ limit) &&
        (match c.ramp with
          | none => true
          | some r => decide (mag r.entry ≤ limit) && decide (r.remaining ≤ r.length))))

/-! ## Emergency stop (R91) -/

/-- While ESTOP_CHAIN is 0, every roller is DETACHED or RELEASED_UNACK with the run permit absent, or a run permit
event marked as emergency stop still waits for the coupling controller; no event behind it brings the permit. -/
def estopLawful (s : State) : Bool :=
  s.line.inputs.estopChain || estopWaits s.mail.permitToCoupling ||
    (!s.coupling.runPermitView && allResting s.coupling && s.mail.permitToCoupling.all fun e => !e.present)
where
  /-- A marked event waits, and no event behind the last one brings the permit. -/
  estopWaits : List RunPermitEvent → Bool
    | [] => false
    | e :: es => (e.estopMark && !e.present && es.all fun x => !x.present) || estopWaits es

/-! ## Profile queue (R102) -/

/-- At most 64 points in load order, an END point only as the last, and the closed flag set exactly when it is
held (R102). -/
def profileLawful (p : Profile) : Bool :=
  decide (p.points.length ≤ 64) && p.points.dropLast.all (fun x => !x.isEnd) &&
    decide (p.closed = closes p.points)

/-- The bytes of a load's points, one point after another (11.4): duration 2, target speed 3 signed, grade 2 signed, flags
with END in bit 0 and MARK in bit 1 and any value in the others, and the cue number where MARK is set. -/
def pointsLaid : List Point → List Byte → Prop
  | [], bytes => bytes = []
  | p :: ps, bytes =>
    ∃ (flags : Byte) (rest : List Byte),
      bytes = be 2 p.duration ++ be 3 p.speed ++ be 2 p.grade ++ [flags] ++
        (match p.cue with
          | none => []
          | some cue => [byte cue]) ++ rest ∧
      flags.getLsbD 0 = p.isEnd ∧ flags.getLsbD 1 = p.cue.isSome ∧
      p.duration < 65536 ∧ -8388608 ≤ p.speed ∧ p.speed < 8388608 ∧ -32768 ≤ p.grade ∧ p.grade < 32768 ∧
      (∀ cue, p.cue = some cue → cue < 256) ∧ pointsLaid ps rest

/-- A RUNNING run has a segment in progress, and the published run record carries the run state and the
target the queue holds (R108, 5.3). -/
def runLawful (p : Profile) : Bool :=
  (decide (p.run ≠ .running) ||
      (match p.points with
        | [] => false
        | x :: _ => decide (p.elapsed < x.duration))) &&
    p.points.all (fun x => decide (1 ≤ x.duration)) && decide (p.record.run = p.run) &&
    (decide (p.run ≠ .running) || decide (p.record.target = p.target))

/-! ## Line unit (R126, R128, R130, R132, R133) -/

/-- Every logical input holds the value R126 forms from the lines, and the permits are those of the inputs
(R128, R130). -/
def inputsLawful (u : LineUnit) : Bool :=
  allInputs.all (fun i => decide (getInput u.inputs i = formedInput u i)) &&
    decide (u.runPermit = runPermitOf u.inputs) &&
    Roller.all.all (fun k => decide (u.rollerPermit.get k = rollerPermitOf u.inputs k))

/-- Brake holds, lift inhibit and run lamp follow the line unit's views (R132, R133). -/
def outputsLawful (u : LineUnit) : Bool :=
  Roller.all.all (fun k => decide (u.brakeHold.get k = resting (u.view.get k))) &&
    decide (u.liftInhibit = liftInhibitOf u.view) && decide (u.runLamp = lampLit u.modeView)

/-! ## What a change of the logical inputs brings (R127 to R131, R137) -/

/-- The run permit events of a change (R128, R129): one when the permit changed or ESTOP_CHAIN fell, marked as
emergency stop exactly when it fell. -/
def permitEvents (old new : LogInputs) : List RunPermitEvent :=
  let fell := old.estopChain && !new.estopChain
  if runPermitOf old ≠ runPermitOf new ∨ fell = true then
    [{ present := runPermitOf new, estopChain := new.estopChain, doorClosed := new.doorClosed
       restraintOk := new.restraintOk, liftDown := new.liftDown, estopMark := fell }]
  else []

/-- The roller permit events of a change (R130): one when permit `k` changed. -/
def rollerPermitEvents (old new : LogInputs) (k : Roller) : List RollerPermitEvent :=
  if (old.brakeReleased.get k && old.driveReady.get k) = (new.brakeReleased.get k && new.driveReady.get k) then []
  else
    [{ present := new.brakeReleased.get k && new.driveReady.get k, brakeReleased := new.brakeReleased.get k
       driveReady := new.driveReady.get k }]

/-- The LINE CHANGE reports of a change (R131): one for each logical input that changed, in the order of their function
codes, with the line the value comes from (absent where it is the default) and the cause ROUTING or SAMPLE. -/
def lineReports (time : BitVec 32) (routing : Bool) (u : LineUnit) (new : LogInputs) : List Report :=
  (allInputs.filter fun i => decide (getInput u.inputs i ≠ getInput new i)).map fun i =>
    ⟨some time, .lineChange i (getInput new i) ((inputSource u i).map (·.1)) routing⟩

/-- Over the line unit `u` of a sample or of a routing change, the logical inputs of which `again` holds are formed
anew and the others kept; the permits follow, and the events and reports of R127 to R131 are sent, with no edge from a
routing change (R127). Nothing else of the part changes. -/
def inputsFormed (again : LogIn → Prop) (routing : Bool) (u : LineUnit) (s t : State) : Prop :=
  ∃ new : LogInputs,
    (∀ i, (again i → getInput new i = formedInput u i) ∧ (¬again i → getInput new i = getInput u.inputs i)) ∧
    t = { s with
      line :=
        { u with
          inputs := new
          runPermit := new.estopChain && new.doorClosed && new.restraintOk && new.liftDown
          rollerPermit := Four.tabulate fun k => new.brakeReleased.get k && new.driveReady.get k }
      mail :=
        { s.mail with
          permitToShaft := s.mail.permitToShaft ++ permitEvents u.inputs new
          permitToCoupling := s.mail.permitToCoupling ++ permitEvents u.inputs new
          rollerPermit := Four.tabulate fun k => s.mail.rollerPermit.get k ++ rollerPermitEvents u.inputs new k
          indexEdge := Four.tabulate fun k =>
            s.mail.indexEdge.get k +
              if routing = false ∧ u.inputs.index.get k = false ∧ new.index.get k = true then 1 else 0
          markEdge :=
            s.mail.markEdge +
              if routing = false ∧ u.inputs.extMark = false ∧ new.extMark = true then 1 else 0
          reports :=
            { s.mail.reports with
              line := s.mail.reports.line ++ lineReports s.timer.time routing u new } } }

/-- A routing change (R137): line `l` takes function `f`, and the logical inputs of the old and the new code are formed
anew. -/
def routed (l : LineId) (f : Function) (s t : State) : Prop :=
  inputsFormed (fun i => f = .input i ∨ s.line.settings.functions.line l = .input i) true
    { s.line with
      settings := { s.line.settings with functions := s.line.settings.functions.setLine l f } } s t

/-! ## Notice queue (R170) -/

/-- At most 16 notices, events apart from samples (R170). -/
def noticesLawful (q : NoticeQueue) : Bool :=
  decide (noticesHeld q ≤ 16) && q.events.all (fun n => !isSample n.body) && q.samples.all (fun n => isSample n.body)

/-! ## Message link (R152, R158, R165) -/

/-- The bytes of the frame taken so far that the CRC covers, by receiver state (R152, R153). -/
def coveredBytes (l : Link) : List Byte :=
  match l.rx with
  | .length => [l.frame.addr]
  | .kind => [l.frame.addr, l.frame.length]
  | .tag => [l.frame.addr, l.frame.length, l.frame.kind]
  | .payload | .crcHigh | .crcLow =>
    [l.frame.addr, l.frame.length, l.frame.kind, l.frame.tag] ++ l.frame.payload
  | .off | .hunt | .address | .skip | .replying => []

/-- The payload taken is short of the length in PAYLOAD, complete in CRC_HIGH and CRC_LOW, and empty
elsewhere (R152). -/
def payloadLawful (l : Link) : Bool :=
  match l.rx with
  | .payload => decide (l.frame.payload.length < l.frame.length.toNat)
  | .crcHigh | .crcLow => decide (l.frame.payload.length = l.frame.length.toNat)
  | .off | .hunt | .address | .length | .kind | .tag | .skip | .replying => decide (l.frame.payload = [])

/-- The running CRC is the CRC of the covered bytes (R152, R153), a length accepted is at most 240 (R154), the
part is REPLYING exactly while a reply is held, and drives the line only then (R151, R158); and SKIP alone is marked as
entered from OFF (R165). -/
def linkLawful (l : Link) : Bool :=
  decide (l.frame.crc = crc16 (coveredBytes l)) && payloadLawful l && decide (l.frame.length.toNat ≤ 240) &&
    decide (l.reply.isSome = decide (l.rx = .replying)) && (!l.driver || decide (l.rx = .replying)) &&
    (l.deferred.isNone || decide (l.rx = .replying)) && (!l.fromOff || decide (l.rx = .skip))

/-! ## Settings store (R177, R183) -/

/-- A snapshot is held exactly while STORING, in one of the stages after the mark (R177, R178); the receiver is
OFF exactly while LOADING (R165); a reload that waits for its reply finds no store in flight (R180). -/
def storeLawful (s : State) : Bool :=
  decide (s.store.snapshot.isSome = storing s) && (!storing s || decide (s.store.stage ≠ .mark)) &&
    (decide (s.link.rx = .off) == decide (s.store.activity = .loading)) &&
    (!s.store.reloading || decide (s.store.activity = .loading)) &&
    (decide (s.link.deferred ≠ some .reload) || decide (s.store.activity = .idle))

/-- While a section of an autoload waits for its block, and while the autoload runs, the receiver takes no frame, the
mode is IDLE and every roller is DETACHED or RELEASED_UNACK (R32 note 1, R165, R176, R180): the blocks take their
sections before a command is heard (assumption 10). -/
def handoverLawful (s : State) : Bool :=
  (decide (s.store.activity ≠ .loading) || decide (s.link.rx = .off)) &&
    ((decide (s.link.rx ≠ .off) && handedOver s) ||
      (cellIdle s && (decide (s.link.rx = .off) || decide (s.link.rx = .skip))))

/-- No counter stands above 4 294 967 295 (R183). -/
def countersLawful (c : Counters) : Bool :=
  decide (c.framesAccepted ≤ counterMax) && decide (c.framesDiscarded ≤ counterMax) &&
    decide (c.commandsRefused ≤ counterMax) && decide (c.noticesDiscarded ≤ counterMax) &&
    decide (c.profileUnderruns ≤ counterMax) &&
    c.roller.toList.all fun r =>
      decide (r.lockLosses ≤ counterMax) && decide (r.encoderFaults ≤ counterMax) &&
        decide (r.overspeedFaults ≤ counterMax) && decide (r.indexFaults ≤ counterMax) &&
        decide (r.forceFaults ≤ counterMax) && decide (r.saturatedIntervals ≤ counterMax) &&
        decide (r.illegalTransitions ≤ counterMax)

/-- A roller record lies in the ranges of R33. -/
def rollerRecOk (r : RollerRec) : Bool :=
  inRange 0 16777215 r.scale && inRange 50 5000 r.mass && inRange 1 1048575 r.gain &&
    inRange (-8388608) 8388607 r.zero && inRange 0 250000 r.dMax && inRange 1000 90000 r.overspeed &&
    inRange 0 4194304 r.countsPerRev && inRange 0 1000 r.indexTol && gainsOk r.kp r.kv

def shaftSectionOk (x : ShaftSettings) : Bool := roadLoadOk x.road && limitsOk x.limits && speedOk x.limits x.setpoint

def ratioSectionOk (x : RatioSettings) : Bool := x.goals.toList.all goalOk && x.selects.toList.all fun n => decide (n ≤ 7)

def lineSectionOk (x : LineSettings) : Bool :=
  x.counts.inOrder.all countOk && x.periods.toList.all fun n => decide (n ≤ 255)

/-- Every setting lies in the range of its owning rule (R175). -/
def settingsLawful (x : Settings) : Bool :=
  linkOk x.link && shaftSectionOk x.shaft && x.rollers.toList.all rollerRecOk && couplingOk x.coupling &&
    ratioSectionOk x.ratio && lineSectionOk x.line && thresholdOk x.threshold && samplePeriodOk x.notice.period

/-- Nothing, or something in range. -/
def optionOk {α : Type} (ok : α → Bool) : Option α → Bool
  | none => true
  | some x => ok x

/-- Every ratio goal and current value lies within −50 000 … 50 000, and so does what an autoload hands over (R59). -/
def ratiosLawful (s : State) : Bool :=
  s.target.settings.goals.toList.all goalOk && s.target.current.toList.all goalOk &&
    optionOk ratioSectionOk s.mail.handover.target

/-- A converter's raw value (R40). -/
def rawOk (x : Int) : Bool := inRange (-8388608) 8388607 x

/-- The raw values a channel holds, and the sum of a zeroing in flight, are those of readings (R40, R45). -/
def readingsLawful (c : Channel) : Bool :=
  rawOk c.used.raw && optionOk (fun r => rawOk r.raw) c.held &&
    optionOk
      (fun z =>
        decide (z.count < 128) && inRange (-8388608 * (z.count : Int)) (8388607 * (z.count : Int)) z.sum)
      c.zeroing

/-- Every setting held, copied for a store, or on its way to a block lies in its range, with the laws that carry
it. -/
def settingsKept (s : State) : Bool :=
  settingsLawful (liveSettings s) && optionOk settingsLawful s.store.snapshot &&
    optionOk shaftSectionOk s.mail.handover.shaft &&
    (s.mail.handover.channel.toList.all fun x => optionOk rollerRecOk x) &&
    optionOk ratioSectionOk s.mail.handover.target && optionOk couplingOk s.mail.handover.coupling &&
    optionOk thresholdOk s.mail.handover.profile && optionOk lineSectionOk s.mail.handover.line &&
    optionOk (fun x => samplePeriodOk x.period) s.mail.handover.notice &&
    (match s.link.deferred with
      | some (.setLink l) => linkOk l
      | some .reset | some .reload | none => true) &&
    speedLawful s.shaft && s.channel.toList.all readingsLawful

/-! ## Transitions of modes, coupling states and run states (1.2.5, 4.6.3, R104) -/

/-- The transitions of the shaft model's mode and stop cause gathered in 1.2.5: nothing changes; a running mode
is entered from IDLE or another running mode; STOPPING is entered with a cause; ESTOP replaces the cause; the stop
ramp ends in IDLE with the cause kept; a reset. -/
def modeMoves (mode : Mode) (cause : StopCause) (mode' : Mode) (cause' : StopCause) : Bool :=
  decide (mode' = mode ∧ cause' = cause) || (decide (mode = .idle) && running mode' && decide (cause' = .none)) ||
    (running mode && running mode' && decide (cause' = cause)) ||
    (running mode && decide (mode' = .stopping ∧ cause' ≠ .none)) ||
    decide (mode = .stopping ∧ mode' = .stopping ∧ cause' = .estop) ||
    decide (mode = .stopping ∧ mode' = .idle ∧ cause' = cause) || decide (mode' = .idle ∧ cause' = .none)

/-- The transitions of one roller gathered in 4.6.3 (R72, R92). -/
def couplingMoves : CouplingState → CouplingState → Bool
  | .detached, new => decide (new = .detached) || decide (new = .pendingAttach) || decide (new = .releasedUnack)
  | .pendingAttach, new =>
    decide (new = .pendingAttach) || decide (new = .matching) || decide (new = .releasedUnack)
  | .matching, new =>
    decide (new = .matching) || decide (new = .locked) || decide (new = .releasing) || decide (new = .releasedUnack)
  | .locked, new =>
    decide (new = .locked) || decide (new = .lostLock) || decide (new = .releasing) || decide (new = .releasedUnack)
  | .lostLock, new =>
    decide (new = .lostLock) || decide (new = .locked) || decide (new = .releasing) || decide (new = .releasedUnack)
  | .releasing, new => decide (new = .releasing) || decide (new = .releasedUnack)
  | .releasedUnack, new => decide (new = .releasedUnack) || decide (new = .detached)

/-- The transitions of the run state gathered in R104. A START PROFILE whose start test passes goes through ARMED
within the command. -/
def runMoves : RunState → RunState → Bool
  | .idle, new => decide (new = .idle) || decide (new = .armed) || decide (new = .running)
  | .armed, new =>
    decide (new = .armed) || decide (new = .running) || decide (new = .abandoned) || decide (new = .idle)
  | .running, new =>
    decide (new = .running) || decide (new = .finished) || decide (new = .starved) || decide (new = .abandoned) ||
      decide (new = .idle)
  | .finished, new => decide (new = .finished) || decide (new = .idle)
  | .starved, new => decide (new = .starved) || decide (new = .idle)
  | .abandoned, new => decide (new = .abandoned) || decide (new = .idle)

/-- The geometry fields of a roller record: all but the gains (R33). -/
def geometry (r : RollerRec) : RollerRec := { r with kp := 0, kv := 0 }

/-! ## The kinds and lengths of the commands (8.7, 11.3) -/

/-- Whether a payload has a length of the command of its kind: nothing where the kind names no command (R156, R157,
11.3). A SET ROLLER of 6 bytes is GAINS and one of 35 bytes FULL, and a form byte that names the other of them makes
the length wrong. -/
def lengthRight (kind : Nat) (p : List Byte) : Option Bool :=
  let n := p.length
  let form := p.tail.headD 0#8
  if kind = 0x20 then some (decide ((n = 6 ∧ form ≠ 1#8) ∨ (n = 35 ∧ form ≠ 0#8)))
  else if kind = 0x34 then some (decide (n = 0 ∨ n = 30))
  else if kind = 0x40 then some (decide (9 ≤ n ∧ n ≤ 145))
  else (lengths.find? fun x => x.2.contains kind).map fun x => decide (n = x.1)
where
  /-- The length and the kinds of the other commands. -/
  lengths : List (Nat × List Nat) :=
    [(0, [0x14, 0x15, 0x42, 0x43, 0x45, 0x53, 0x62, 0x68, 0x70, 0x71, 0x72, 0x74, 0x75]),
     (1, [0x10, 0x21, 0x22, 0x30, 0x31, 0x32, 0x33, 0x41, 0x44, 0x73]), (2, [0x29, 0x50]), (3, [0x78]),
     (4, [0x13, 0x60]), (5, [0x28, 0x2A, 0x61]), (7, [0x69]), (9, [0x52]), (10, [0x11, 0x12, 0x51])]

/-! ## A command frame at the node address (R155, R158, R159) -/

/-- The receiver hunts and the frame is addressed to the node (R152, R155). -/
def hears (h : Head) (s : State) : Prop := s.link.rx = .hunt ∧ h.addr.toNat = s.link.settings.node

/-- The part once a frame at its node address is accepted: counted, the receiver out of the frame (R155). -/
def heard (s : State) : State := countAccepted (rxTo .hunt s)

/-- The part `t` with a reply waiting to be sent, and what acts after it (R158, R164). -/
def replied (h : Head) (kind : Byte) (payload : List Byte) (act : Option Deferred) (t : State) : State :=
  startReply ⟨byte t.link.settings.node, kind, h.tag, payload⟩ act t

/-- The part after a command of this kind is refused (R157, R159). -/
def refusedWith (h : Head) (kind : Byte) (code : RefusalCode) (s : State) : State :=
  replied h 0xFF#8 [kind, byte (refusalCode code)] none (countRefused (heard s))

/-- The part after a command at its node address is taken: with kind + 0x80, the result class, the reply fields
and what acts after the reply (R158, R164). -/
def taken (h : Head) (kind : Byte) (cls : Nat) (fields : List Byte) (act : Option Deferred) (t : State) : State :=
  replied h kind (byte cls :: fields) act t

/-- The settings memory's answer to the mark, as the row of STORE SETTINGS carries it (R177). -/
def markAccepted : Instr → Bool
  | .storeSettings _ accepts => accepts
  | _ => false

/-- The bytes of a frame received one after another, each with the idle time before it in µs. -/
def receiveAll (accepts : Bool) (bytes : List (Byte × Nat)) (s : State) : State :=
  bytes.foldl (fun s x => byteReceived x.1 x.2 true accepts s) s

/-- The part with the reply that waits, and the driver and deferred effect with it, taken away (R160). -/
def silenced (t : State) : State :=
  { t with link := { t.link with rx := .hunt, frame := .empty, reply := none, deferred := none } }

/-- The state after `n` occurrences of a row, one after another. -/
def repeated (i : Instr) : Nat → State → State
  | 0, s => s
  | n + 1, s =>
    match exec i s with
    | .next t => repeated i n t
    | .fault _ | .refused _ => s

end Sys2Proof.Machine
end

