-- ==== Sys2Proof/WellFormed.lean ====
section
/-! DEFINITION. Which commands and events can reach the part at all: a field fits the bytes 11.3 gives it, a
load fits a frame (8.2), and what the settings memory is said to have taken is not more than the image holds
(11.8). Whether a field that fits lies in its range is no matter of form: the owning rule refuses it RANGE
(R187). -/

namespace Sys2Proof

/-- The number fits an unsigned field of `n` bytes (R187). -/
def fitsU (n x : Nat) : Bool := decide (x < 256 ^ n)

/-- The number fits a signed field of `n` bytes (R187). -/
def fitsS (n : Nat) (x : Int) : Bool :=
  decide (-((256 ^ n : Nat) : Int) ≤ 2 * x) && decide (2 * x < ((256 ^ n : Nat) : Int))

def RoadLoad.wf (r : RoadLoad) : Bool :=
  fitsU 2 r.m && fitsU 2 r.a && fitsU 2 r.b && fitsU 2 r.c && fitsS 2 r.grade

def Limits.wf (l : Limits) : Bool := fitsU 4 l.vMax && fitsU 2 l.vRev && fitsU 2 l.aLim && fitsU 2 l.aStop

def RollerFields.wf (f : RollerFields) : Bool :=
  fitsU 4 f.scale && fitsU 1 f.direction && fitsU 2 f.mass && fitsU 4 f.gain && fitsS 4 f.zero &&
    fitsU 4 f.dMax && fitsU 4 f.overspeed && fitsU 4 f.countsPerRev && fitsU 2 f.indexTol && fitsU 2 f.kp &&
    fitsU 2 f.kv

def RollerBody.wf : RollerBody → Bool
  | .gains kp kv => fitsU 2 kp && fitsU 2 kv
  | .full f => f.wf

def CouplingParams.wf (p : CouplingParams) : Bool :=
  fitsU 2 p.vWin && fitsU 2 p.nMatch && fitsU 4 p.xWin && fitsU 2 p.nLoss && fitsU 2 p.nRelock &&
    fitsU 2 p.tLoss && fitsU 2 p.tAttach && fitsU 2 p.vStill && fitsU 2 p.nSettle && fitsU 2 p.tRelease &&
    fitsU 2 p.ramp && fitsU 4 p.skewLimit && fitsU 2 p.skewFlywheel

def LinkSettings.wf (l : LinkSettings) : Bool := fitsU 1 l.node && fitsU 1 l.group && fitsU 1 l.rate

/-- The fields of a command fit the sizes of 11.3. -/
def Cmd.wf : Cmd → Bool
  | .selectMode m => fitsU 1 m
  | .setRoadLoad r => r.wf
  | .setLimits l => l.wf
  | .setSpeed v => fitsS 4 v
  | .setRoller k form body => fitsU 1 k && fitsU 1 form && body.wf
  | .readRoller k | .zeroForce k | .attach k | .release k | .isolate k | .acknowledgeRelease k => fitsU 1 k
  | .setRatio i g => fitsU 1 i && fitsS 4 g
  | .selectRatio k n => fitsU 1 k && fitsU 1 n
  | .nudge k d => fitsU 1 k && fitsS 4 d
  | .setCoupling none => true
  | .setCoupling (some p) => p.wf
  | .loadPoints n points => fitsU 1 n && decide (points.length ≤ 239)
  | .startProfile c => fitsU 1 c
  | .setProfile n => fitsU 1 n
  | .routeLine l c => fitsU 1 l && fitsU 1 c
  | .setQualifier g p cs => fitsU 1 g && fitsU 1 p && cs.toList.all (fitsU 1)
  | .setTime t => fitsU 4 t
  | .setCompare v src => fitsU 4 v && fitsU 1 src
  | .setNotices _ n _ => fitsU 2 n
  | .readCounters o => fitsU 1 o
  | .setLink l => l.wf
  | .driveLines .. | .stop | .readReference | .abandonProfile | .clearProfile | .readProfile | .readLines
  | .readTime | .fetchNotices | .storeSettings | .reloadSettings | .reset | .readIdentity | .readStatus => true

/-- The command a command row carries, with its head; nothing for an event row. -/
def Instr.command : Instr → Option (Head × Cmd)
  | .selectMode h m => some (h, .selectMode m)
  | .setRoadLoad h r => some (h, .setRoadLoad r)
  | .setLimits h l => some (h, .setLimits l)
  | .setSpeed h v => some (h, .setSpeed v)
  | .stop h => some (h, .stop)
  | .readReference h => some (h, .readReference)
  | .setRoller h k form body => some (h, .setRoller k form body)
  | .readRoller h k => some (h, .readRoller k)
  | .zeroForce h k => some (h, .zeroForce k)
  | .setRatio h i g => some (h, .setRatio i g)
  | .selectRatio h k n => some (h, .selectRatio k n)
  | .nudge h k d => some (h, .nudge k d)
  | .attach h k => some (h, .attach k)
  | .release h k => some (h, .release k)
  | .isolate h k => some (h, .isolate k)
  | .acknowledgeRelease h k => some (h, .acknowledgeRelease k)
  | .setCoupling h p => some (h, .setCoupling p)
  | .loadPoints h n ps => some (h, .loadPoints n ps)
  | .startProfile h c => some (h, .startProfile c)
  | .abandonProfile h => some (h, .abandonProfile)
  | .clearProfile h => some (h, .clearProfile)
  | .setProfile h n => some (h, .setProfile n)
  | .readProfile h => some (h, .readProfile)
  | .routeLine h l c => some (h, .routeLine l c)
  | .setQualifier h g p cs => some (h, .setQualifier g p cs)
  | .driveLines h a b c => some (h, .driveLines a b c)
  | .readLines h => some (h, .readLines)
  | .setTime h t => some (h, .setTime t)
  | .setCompare h v src => some (h, .setCompare v src)
  | .readTime h => some (h, .readTime)
  | .fetchNotices h => some (h, .fetchNotices)
  | .setNotices h e n sel => some (h, .setNotices e n sel)
  | .storeSettings h _ => some (h, .storeSettings)
  | .reloadSettings h => some (h, .reloadSettings)
  | .reset h => some (h, .reset)
  | .readCounters h o => some (h, .readCounters o)
  | .readIdentity h => some (h, .readIdentity)
  | .readStatus h => some (h, .readStatus)
  | .setLink h l => some (h, .setLink l)
  | .receiveByte .. | .gapTimeout | .idleTimeout | .replyStart | .replyComplete | .shaftInterval
  | .channelInterval _ | .forceFault _ | .zeroingDone _ | .releaseRampEnd _ | .encoderTransition ..
  | .forceReading .. | .indexEdge _ | .channelCouplingChange _ | .targetInterval | .targetCouplingChange _
  | .couplingInterval | .attachTimeout _ | .lockTimeout _ | .notSettled _ | .skewFault
  | .measurementArrival _ | .matched _ | .lockLoss _ | .relocked _ | .settled _ | .rampEnd _
  | .faultHandoff _ | .couplingRunPermitChange | .rollerPermitChange _ | .shaftRunPermitChange
  | .shaftCouplingChange _ | .shaftSkewFault | .shaftProfileFinish | .shaftProfileStarved
  | .shaftProfileAbandon | .profileInterval | .pointReached | .markOutPulseEnd | .profileTimeMark
  | .profileAbandonment | .groupSample .. | .lineQualified .. | .lineCouplingChange _ | .runLampRecord
  | .markOutReport | .cellTimerInterval | .markEdge | .noticeReport _ | .referenceRecordTaken | .shaftSample
  | .noticeCouplingChange _ | .storeWriteDone .. | .storeSealDone .. | .storeCheckDone .. | .storeTimeout ..
  | .powerOnReset _ | .autoloadEnd _ | .autoloadTimeout | .settingsHandover _ => none

/-- The cells at which a read of the settings memory departs lie in its 8 KiB (0.2). -/
def readWf : MemRead → Bool
  | none => true
  | some departs => departs.all fun c => decide (c.1 < 8192)

/-- A command's fields fit; a reading's five bytes are its own; the memory takes at most the 280 bytes of a
stage (11.8). -/
def Instr.wf (i : Instr) : Bool :=
  match i with
  | .storeWriteDone _ landed _ | .storeSealDone _ landed _ | .storeTimeout landed _ | .powerOnReset landed =>
    decide (landed ≤ 280)
  | .storeCheckDone readBack _ => readWf readBack
  | .autoloadEnd read => readWf read
  | i =>
    match i.command with
    | some (_, c) => c.wf
    | none => true

end Sys2Proof
end

