-- ==== Sys2Proof/Certificates/Slice0/Obligations.lean ====
section
/-! DEFINITION. The statements about the part, chapter by chapter. Each is a proposition for the provers. -/

open Sys2Proof Sys2Proof.Machine

/-! ## The step and the queue -/

/-- The step takes the command or event at the front of the queue and runs it with the rest waiting. With an empty
queue the part idles: the model's choice, assumption 1. -/
def Obligations.StepRunsTheFront : Prop :=
  (∀ (i : Instr) (rest : List Instr) (s : State),
    step { s with pending := i :: rest } = exec i { s with pending := rest }) ∧
  ∀ s : State, step { s with pending := [] } = .next { s with pending := [] }

/-- Every command and every event is taken in every state, and none touches the queue of those that wait; that queue
is the model's own, which a reset keeps (assumption 1). -/
def Obligations.EveryRowIsTaken : Prop :=
  ∀ (i : Instr) (s : State), ∃ t : State, exec i s = .next t ∧ t.pending = s.pending

/-- The state right after power-on meets every law of Safety.lean, and its settings memory the canonical form. -/
def Obligations.ResetMeetsEveryLaw : Prop :=
  speedLawful State.reset.shaft = true ∧ shaftSettingsLawful State.reset.shaft = true ∧
  (∀ k : Roller, forceLawful (State.reset.channel.get k) = true ∧ demandLawful (State.reset.channel.get k) = true ∧
    viewsFollow State.reset k = true ∧ demandBounded State.reset k = true) ∧
  contributingLawful State.reset = true ∧ estopLawful State.reset = true ∧ ratiosLawful State.reset = true ∧
  settingsKept State.reset = true ∧ handoverLawful State.reset = true ∧ profileLawful State.reset.profile = true ∧
  runLawful State.reset.profile = true ∧ inputsLawful State.reset.line = true ∧
  outputsLawful State.reset.line = true ∧ noticesLawful State.reset.notice = true ∧
  linkLawful State.reset.link = true ∧ storeLawful State.reset = true ∧
  countersLawful State.reset.store.counters = true ∧ Memory.wf State.reset.store.memory = true

/-! ## The message link (chapter 8) -/

/-- What a command row (one whole good frame, assumption 6) meets: in OFF and REPLYING it is not taken; the idle line
before it ends SKIP, but while a section of an autoload waits for its block the frame is not taken there (R176,
assumption 10), nor in a SKIP entered from OFF, where that idle time may have begun in OFF (R165, assumption 37); a frame left unfinished is discarded and counted first (R152, R154). In HUNT, an address that is
neither the node address, nor the group address when that is not 0, nor 0 changes nothing (R155); at address 0 a
command other than STOP and ISOLATE is only counted as discarded (R161). -/
def Obligations.FrameMeetsTheReceiver : Prop :=
  ∀ (i : Instr) (h : Head) (c : Cmd) (s : State), i.command = some (h, c) →
    ((s.link.rx = .off ∨ s.link.rx = .replying) → exec i s = .next s) ∧
    (s.link.rx = .skip → handedOver s = true → s.link.fromOff = false → exec i s = exec i (rxTo .hunt s)) ∧
    (s.link.rx = .skip → handedOver s = true → s.link.fromOff = true →
      exec i s = .next { s with link := { s.link with fromOff := false } }) ∧
    (s.link.rx = .skip → handedOver s = false → exec i s = .next s) ∧
    (inFrame s.link.rx = true → exec i s = exec i (countDiscarded (rxTo .hunt s))) ∧
    (s.link.rx = .hunt → h.addr.toNat ≠ s.link.settings.node →
      (s.link.settings.group = 0 ∨ h.addr.toNat ≠ s.link.settings.group) →
      (h.addr ≠ 0#8 → exec i s = .next (rxTo .hunt s)) ∧
      (h.addr = 0#8 → cmdKind c ≠ 0x14 → cmdKind c ≠ 0x32 → exec i s = .next (countDiscarded (rxTo .hunt s))))

/-- A command at the group address, or a STOP or ISOLATE at address 0 whatever group address is held, has the effect
it has at the node address and no reply (R160, R161): a refusal is counted and nothing else changes; otherwise the
state is the one the reply would wait in, less the reply, and what would act after the reply acts at once. -/
def Obligations.SilentFramesActAlike : Prop :=
  ∀ (i j : Instr) (h g : Head) (c : Cmd) (s t : State),
    i.command = some (h, c) → j.command = some (g, c) → markAccepted i = markAccepted j →
    linkLawful s.link = true → s.link.rx = .hunt → h.addr.toNat = s.link.settings.node →
    g.addr.toNat ≠ s.link.settings.node →
    ((s.link.settings.group ≠ 0 ∧ g.addr.toNat = s.link.settings.group) ∨
      (g.addr = 0#8 ∧ (cmdKind c = 0x14 ∨ cmdKind c = 0x32))) →
    exec i s = .next t →
    exec j s = .next (actNow t.link.deferred (silenced t))

/-- Every command at the node address in HUNT is answered by exactly one reply (R158): from the node address, with
the tag of the command and at most 240 payload bytes; either with the command's kind + 0x80 and a result class 0 to
2, or with kind 0xFF, and then the command has changed nothing but the count of refusals (R157, R159). -/
def Obligations.EveryCommandIsAnswered : Prop :=
  ∀ (i : Instr) (h : Head) (c : Cmd) (s : State), i.command = some (h, c) → hears h s →
    ∃ (t : State) (r : Reply), exec i s = .next t ∧ t.link.rx = .replying ∧ t.link.reply = some r ∧
      r.addr = byte s.link.settings.node ∧ r.tag = h.tag ∧ r.payload.length ≤ 240 ∧
      ((r.kind = byte (cmdKind c + 0x80) ∧ ∃ cls fields, cls ≤ 2 ∧ r.payload = byte cls :: fields) ∨
        ∃ code, t = refusedWith h (byte (cmdKind c)) code s)

/-- The bytes of a command's frame, received one by one with no idle gap above 2 ms inside the frame, do exactly what
the row of the command does (8.2, R152 to R157). -/
def Obligations.FrameBytesAreTheCommand : Prop :=
  ∀ (i : Instr) (h : Head) (c : Cmd) (bytes : List (Byte × Nat)) (s : State),
    i.command = some (h, c) → i.wf = true → s.link.rx = .hunt →
    bytes.map (·.1) = cmdFrame h c → (∀ x ∈ bytes.tail, x.2 ≤ gapLimitUs) →
    exec i s = .next (receiveAll (markAccepted i) bytes s)

/-- The payload the cell computer sends for a command is read back as that command (11.3). -/
def Obligations.PayloadCarriesItsCommand : Prop :=
  ∀ c : Cmd, c.wf = true → lengthOk c = true → cmdOfFrame (cmdKind c) (cmdPayload c) = .ok c

/-- One byte with a good stop bit, at most 2 ms after the byte before it (R152 to R154): the receiver's state, and
the CRC fed with every byte from the address to the payload; a length above 240 and a bad CRC discard the frame. A
complete good frame (R155 to R157, R161): a foreign address changes nothing; at address 0 a kind other than STOP and
ISOLATE, and at the node or group address a reply kind, is only counted as discarded; an undefined kind is refused KIND
and a wrong length LENGTH, without a reply at the group address and at address 0; any other is the command it carries.
What ends a frame unfinished (R154): an idle gap above 2 ms, found before the next byte or with none arriving, takes the
receiver to HUNT, and its byte is then used there; a framing error takes it to SKIP, from which only an idle line leads
to HUNT (R152, R165), once no section of an autoload waits (R176, assumption 10). The idle time before a byte comes with
it as an operand (the model's choice, assumption 12). After an autoload the 2 ms count from the entry into SKIP (R165):
the gap before the first byte there, which may have begun in OFF, does not end SKIP, and IDLE TIMEOUT does; that byte
ignored, gaps count again (assumption 37). -/
def Obligations.ReceiverTakesItsBytes : Prop :=
  ∀ (b : Byte) (gap : Nat) (accepts : Bool) (s : State),
    let f := s.link.frame
    let on (rx : RxState) (f : RxFrame) : State := { s with link := { s.link with rx := rx, frame := f } }
    let ignored (u : State) : State :=
      if handedOver u then { u with link := { u.link with fromOff := false } } else u
    let crc := crc16Byte f.crc b
    let good : Prop := f.crcHigh = (f.crc >>> 8).setWidth 8 ∧ b = f.crc.setWidth 8
    (gap ≤ gapLimitUs →
    exec (.receiveByte b gap true accepts) s = .next
      (match s.link.rx with
       | .off | .replying => s
       | .skip => ignored s
       | .hunt => if b = 0x5A#8 then on .address .empty else s
       | .address => on .length { f with addr := b, crc := crc }
       | .length =>
         if 240 < b.toNat then countDiscarded (on .skip .empty) else on .kind { f with length := b, crc := crc }
       | .kind => on .tag { f with kind := b, crc := crc }
       | .tag =>
         if f.length = 0#8 then on .crcHigh { f with tag := b, crc := crc }
         else on .payload { f with tag := b, crc := crc }
       | .payload =>
         if f.length.toNat ≤ f.payload.length + 1 then
           on .crcHigh { f with payload := f.payload ++ [b], crc := crc }
         else on .payload { f with payload := f.payload ++ [b], crc := crc }
       | .crcHigh => on .crcLow { f with crcHigh := b }
       | .crcLow =>
         if f.crcHigh = (f.crc >>> 8).setWidth 8 ∧ b = f.crc.setWidth 8 then
           acceptFrame ⟨f.addr, f.tag⟩ f.kind accepts (cmdOfFrame f.kind.toNat f.payload) s
         else countDiscarded (on .hunt .empty))) ∧
    (gap ≤ gapLimitUs → s.link.rx = .crcLow → good →
      let whole := exec (.receiveByte b gap true accepts) s
      let h : Head := ⟨f.addr, f.tag⟩
      let node : Prop := f.addr.toNat = s.link.settings.node
      let group : Prop := ¬node ∧ s.link.settings.group ≠ 0 ∧ f.addr.toNat = s.link.settings.group
      let broadcast : Prop := ¬node ∧ ¬group ∧ f.addr = 0#8
      let silent : Prop := group ∨ (broadcast ∧ (f.kind = 0x14#8 ∨ f.kind = 0x32#8))
      let hunting := on .hunt .empty
      let right := lengthRight f.kind.toNat f.payload
      (¬node → ¬group → ¬broadcast → whole = .next hunting) ∧
      (broadcast → f.kind ≠ 0x14#8 → f.kind ≠ 0x32#8 → whole = .next (countDiscarded hunting)) ∧
      (node ∨ group → 128 ≤ f.kind.toNat → whole = .next (countDiscarded hunting)) ∧
      (node → f.kind.toNat < 128 → right = none → whole = .next (refusedWith h f.kind .kind s)) ∧
      (node → right = some false → whole = .next (refusedWith h f.kind .length s)) ∧
      (silent → f.kind.toNat < 128 → right ≠ some true →
        whole = .next (countRefused (countAccepted hunting))) ∧
      ∀ (i : Instr) (c : Cmd), node ∨ silent → right = some true → i.command = some (h, c) →
        cmdOfFrame f.kind.toNat f.payload = .ok c → (c = .storeSettings → markAccepted i = accepts) →
        whole = exec i hunting) ∧
    (exec .gapTimeout s =
      .next (if inFrame s.link.rx then countDiscarded (rxTo .hunt s) else s)) ∧
    (exec .idleTimeout s = .next (if s.link.rx = .skip ∧ handedOver s then rxTo .hunt (ignored s) else s)) ∧
    (gap ≤ gapLimitUs → exec (.receiveByte b gap false accepts) s =
      .next (if inFrame s.link.rx then countDiscarded (rxTo .skip s)
        else if s.link.rx = .skip then ignored s else s)) ∧
    (gapLimitUs < gap → ∀ stopOk, exec (.receiveByte b gap stopOk accepts) s =
      exec (.receiveByte b 0 stopOk accepts)
        (if inFrame s.link.rx then countDiscarded (rxTo .hunt s)
         else if s.link.rx = .skip ∧ handedOver s ∧ s.link.fromOff = false then rxTo .hunt s else s))

/-- The transmission of a reply (R158, R164): REPLY START enables the driver; REPLY COMPLETE releases the line, the
receiver hunts, and SET LINK, RESET and RELOAD SETTINGS act. SET LINK (R163) leaves the settings held until then. -/
def Obligations.ReplyIsSentThenItActs : Prop :=
  (∀ (s : State) (r : Reply), s.link.rx = .replying → s.link.reply = some r →
    exec .replyStart s = .next { s with link := { s.link with driver := true } } ∧
    (s.link.driver = true →
      let sent : State :=
        { s with
          link := { s.link with rx := .hunt, frame := .empty, reply := none, driver := false, deferred := none } }
      exec .replyComplete s =
        .next (match s.link.deferred with
          | none => sent
          | some (.setLink l) => { sent with link := { sent.link with settings := l } }
          | some .reset => softwareReset sent
          | some .reload => startReload sent)) ∧
    (s.link.driver = false → exec .replyComplete s = .next s)) ∧
  (∀ s : State, s.link.rx ≠ .replying → exec .replyStart s = .next s ∧ exec .replyComplete s = .next s) ∧
  ∀ (h : Head) (l : LinkSettings) (s : State), hears h s →
    exec (.setLink h l) s = .next
      (if l.node < 1 ∨ 239 < l.node ∨ (l.group ≠ 0 ∧ (l.group < 240 ∨ 254 < l.group)) ∨ 3 < l.rate then
        refusedWith h 0x78#8 .range s
       else if s.store.activity = .storing then refusedWith h 0x78#8 .busy s
       else taken h 0xF8#8 (if l = s.link.settings then 1 else 0) [byte l.node, byte l.group, byte l.rate]
         (some (.setLink l)) (heard s))

/-- The laws of the receiver, of the reply and of the settings store hold together after every command and event:
the running CRC is that of the bytes taken, a length taken is at most 240, a reply is held exactly in REPLYING, the
receiver is OFF exactly while an autoload runs, and a snapshot is held exactly while a store runs (R152 to R158,
R165, R176, R177). And while the autoload runs or one of its sections waits, no frame is taken, the mode is IDLE and
every roller rests (R32 note 1, R176, R180; that SKIP lasts until the sections are taken is assumption 10). -/
def Obligations.LinkAndStoreLawsHold : Prop :=
  ∀ (i : Instr) (s t : State), exec i s = .next t →
    (linkLawful s.link = true → storeLawful s = true → linkLawful t.link = true ∧ storeLawful t = true) ∧
    (handoverLawful s = true → handoverLawful t = true)

/-! ## Shaft model (chapter 1) -/

/-- SELECT MODE (R4, R5) and STOP (R7), and what every entry into STOPPING does (R6): the cause held, the speed kept,
an ARMED or RUNNING run handed an abandonment, the MODE CHANGE notice of R11. SELECT MODE answers class 2 when the
mode left is ROAD_LOAD or SPEED_PROFILE with an ARMED or RUNNING run, and STOP whenever a run is abandoned. -/
def Obligations.ModesAreSelectedAndStopped : Prop :=
  ∀ (h : Head) (s : State), hears h s →
    let active := runActive s.profile.record.run
    let moved (new : Mode) (cause : StopCause) (u : State) : State :=
      reportPlain .shaft (.modeChange s.shaft.mode new cause (toMm s.shaft.speed) s.shaft.record.seq)
        { u with shaft := { s.shaft with mode := new, stopCause := cause } }
    let stopped := moved .stopping .command (if active then sendAbandonment .stop (heard s) else heard s)
    (∀ m, 3 < m → exec (.selectMode h m) s = .next (refusedWith h 0x10#8 .range s)) ∧
    (∀ new : Mode, new ≠ .stopping → exec (.selectMode h (modeCode new)) s = .next
      (if s.shaft.mode = .stopping then refusedWith h 0x10#8 .state s
       else if s.shaft.mode = new then taken h 0x90#8 1 [] none (heard s)
       else if s.shaft.mode = .idle then
        if s.shaft.permitView = false then refusedWith h 0x10#8 .permit s
        else if s.shaft.contributing = 0 then refusedWith h 0x10#8 .state s
        else taken h 0x90#8 0 [] none (moved new .none (heard s))
       else if new = .idle then
        taken h 0x90#8 (if active ∧ s.shaft.mode ≠ .constantSpeed then 2 else 0) [] none stopped
       else if active ∧ s.shaft.mode ≠ .constantSpeed then
        taken h 0x90#8 2 [] none (moved new s.shaft.stopCause (sendAbandonment .mode (heard s)))
       else taken h 0x90#8 0 [] none (moved new s.shaft.stopCause (heard s)))) ∧
    exec (.stop h) s = .next
      (if running s.shaft.mode then taken h 0x94#8 (if active then 2 else 0) [] none stopped
       else taken h 0x94#8 1 [] none (heard s))

/-- SET ROAD LOAD, SET LIMITS and SET SPEED (R12 to R16). That SET LIMITS checks the mode before the ranges is the
model's reading, assumption 17. -/
def Obligations.ShaftSettingsAreReplaced : Prop :=
  ∀ (h : Head) (s : State), hears h s →
    (∀ r : RoadLoad, exec (.setRoadLoad h r) s = .next
      (if 450 ≤ r.m ∧ r.m ≤ 5500 ∧ r.a ≤ 65535 ∧ r.b ≤ 65535 ∧ r.c ≤ 65535 ∧ -3000 ≤ r.grade ∧ r.grade ≤ 3000 then
        taken h 0x91#8 0 [] none
          { heard s with shaft := { s.shaft with settings := { s.shaft.settings with road := r } } }
       else refusedWith h 0x11#8 .range s)) ∧
    (∀ l : Limits, exec (.setLimits h l) s = .next
      (let setpoint := clampTo (-(l.vRev : Int)) l.vMax s.shaft.settings.setpoint
       if s.shaft.mode ≠ .idle then refusedWith h 0x12#8 .state s
       else if 1000 ≤ l.vMax ∧ l.vMax ≤ 80000 ∧ l.vRev ≤ 5000 ∧ 1 ≤ l.aLim ∧ l.aLim ≤ 1000 ∧ 1 ≤ l.aStop ∧
          l.aStop ≤ 1000 then
        taken h 0x92#8 (if setpoint = s.shaft.settings.setpoint then 0 else 1) [] none
          { heard s with
            shaft :=
              { s.shaft with
                settings := { s.shaft.settings with limits := l, setpoint := setpoint }
                dvLim := rdiv ((l.aLim : Int) * 65536) 100, dvStop := rdiv ((l.aStop : Int) * 65536) 100 } }
       else refusedWith h 0x12#8 .range s)) ∧
    ∀ v : Int, exec (.setSpeed h v) s = .next
      (let setpoint := clampTo (-(s.shaft.settings.limits.vRev : Int)) s.shaft.settings.limits.vMax v
       taken h 0x93#8 (if setpoint = v then 0 else 1) [] none
        { heard s with shaft := { s.shaft with settings := { s.shaft.settings with setpoint := setpoint } } })

/-- The reading commands answer class 0 with the fields and the length of 11.3, each field as R187 encodes it, and
change nothing else (R31, R36, R70, R76, R95, R119, R140, R149, R184, R185, R186); a roller number outside 1 to 4 and
an option above 1 are refused RANGE. READ COUNTERS shows the counters with its own frame counted as accepted, and
CLEAR then clears them. The model's own: the serial number is a free constant (assumption 15), that READ ROLLER shows
the reading last used, a frame sequence of 0 before the first frame (assumption 23) and count kind 0 in RELEASING
before the ramp ends (assumption 30), and the code of the last autoload outcome (assumption 39). -/
def Obligations.ReadsChangeNothing : Prop :=
  ∀ (h : Head) (s : State), hears h s →
    let answers (i : Instr) (kind : Byte) (n : Nat) (fields : List Byte) : Prop :=
      fields.length + 1 = n ∧ exec i s = .next (taken h kind 0 fields none (heard s))
    let limits := s.shaft.settings.limits
    let road := s.shaft.settings.road
    let r := s.shaft.record
    let p := s.coupling.params
    let q := s.profile
    let u := s.line
    let c := s.timer
    let n := (heard s).store.counters
    let permits : Byte := byte (marks [u.runPermit, u.rollerPermit.fl, u.rollerPermit.fr, u.rollerPermit.rl,
      u.rollerPermit.rr])
    let counters : List Byte :=
      be 4 n.framesAccepted ++ be 4 n.framesDiscarded ++ be 4 n.commandsRefused ++ be 4 n.noticesDiscarded ++
      be 4 n.profileUnderruns ++ [n.roller.fl, n.roller.fr, n.roller.rl, n.roller.rr].flatMap fun x =>
        be 4 x.lockLosses ++ be 4 x.encoderFaults ++ be 4 x.overspeedFaults ++ be 4 x.indexFaults ++
          be 4 x.forceFaults ++ be 4 x.saturatedIntervals ++ be 4 x.illegalTransitions
    answers (.readReference h) 0x95#8 60
      (be 2 r.seq.toNat ++ [byte (modeCode r.mode)] ++ be 4 (rdiv r.speed 65536) ++ be 4 r.dv ++
        be 4 r.distance.toNat ++ be 4 r.fMeas ++ be 4 r.roadLoad ++ be 4 r.fGrade ++ be 2 r.grade ++
        be 4 (match r.traceSpeed with
          | none => 0
          | some v => v) ++
        [byte (marks [r.accLimited, r.speedLimited, r.traceSpeed.isSome]), byte (stopCauseCode s.shaft.stopCause)] ++
        be 4 s.shaft.settings.setpoint ++ be 2 road.m ++ be 2 road.a ++ be 2 road.b ++ be 2 road.c ++
        be 2 road.grade ++ be 4 limits.vMax ++ be 2 limits.vRev ++ be 2 limits.aLim ++ be 2 limits.aStop) ∧
    (∀ k : Roller,
      let x := s.channel.get k
      let y := s.coupling.roller.get k
      let z := s.target.roller.get k
      let counted : Nat × Nat := match y.state with
        | .matching => (1, y.count)
        | .locked => (2, y.count)
        | .lostLock => (3, y.count)
        | .releasing => if y.rampEnded then (4, y.count) else (0, 0)
        | .detached | .pendingAttach | .releasedUnack => (0, 0)
      let timed : Nat × Nat := match y.state with
        | .pendingAttach => (1, y.timer)
        | .lostLock => (2, y.timer)
        | .releasing => (3, y.timer)
        | .detached | .matching | .locked | .releasedUnack => (0, 0)
      answers (.readRoller h (rollerNum k)) 0xA1#8 114
        (be 4 x.settings.scale ++ [byte (directionCode x.settings.direction)] ++ be 2 x.settings.mass ++
          be 4 x.settings.gain ++ be 4 x.settings.zero ++ be 4 x.settings.dMax ++ be 4 x.settings.overspeed ++
          be 4 x.settings.countsPerRev ++ be 2 x.settings.indexTol ++ be 2 x.settings.kp ++ be 2 x.settings.kv ++
          be 4 x.count.toNat ++ be 4 x.pos.um.toNat ++ be 4 x.vMeas ++ be 4 x.force ++
          [byte x.age, flag x.limited] ++ be 3 x.used.raw ++ [byte (statusCode x.used.status)] ++ be 4 x.demand ++
          [flag x.enable, flag x.saturated,
            (match x.frame with
              | none => 0#8
              | some f => f.seq),
            byte (couplingCode x.view), flag x.faultHold, flag x.indexArmed, flag x.zeroing.isSome,
            (match x.zeroing with
              | none => 0#8
              | some o => byte o.count)] ++
          (match x.lastFault with
            | none => List.replicate 10 0#8
            | some f =>
              [byte (faultCode f.kind)] ++ be 4 f.time.toNat ++ [byte (couplingCode f.view)] ++ be 4 f.detail) ++
          [byte (couplingCode y.state), byte counted.1] ++ be 2 counted.2 ++ [byte timed.1] ++ be 2 timed.2 ++
          [flag y.rampEnded, flag y.permitView, byte (reasonCode y.release.first),
            (match y.release.subsequent with
              | none => 0#8
              | some cause => byte (reasonCode cause)),
            flag y.release.notSettled] ++ be 4 y.release.time.toNat ++
          [byte (s.target.settings.selects.get k)] ++ be 4 z.pos.um.toNat ++ be 4 z.nudge ++
          be 2 z.record.refSeq.toNat ++ be 4 z.record.ratio ++ [flag z.record.advanced] ++ be 4 z.record.nudge)) ∧
    (∀ k, k = 0 ∨ 4 < k → exec (.readRoller h k) s = .next (refusedWith h 0x21#8 .range s)) ∧
    answers (.setCoupling h none) 0xB4#8 31
      (be 2 p.vWin ++ be 2 p.nMatch ++ be 4 p.xWin ++ be 2 p.nLoss ++ be 2 p.nRelock ++ be 2 p.tLoss ++
        be 2 p.tAttach ++ be 2 p.vStill ++ be 2 p.nSettle ++ be 2 p.tRelease ++ be 2 p.ramp ++ be 4 p.skewLimit ++
        be 2 p.skewFlywheel) ∧
    answers (.readProfile h) 0xC5#8 34
      ([byte (runCode q.run), byte (conditionCode q.condition), flag q.markKept, byte q.threshold,
          byte q.points.length, byte (64 - q.points.length), flag q.closed] ++
        be 4 (rdiv q.record.target 65536) ++ be 2 q.record.grade ++ be 2 q.record.elapsed ++
        be 2 q.record.duration ++ be 2 q.record.consumed ++ be 4 (rdiv q.vs 65536) ++
        (match q.points with
          | [] => List.replicate 9 0#8
          | x :: _ =>
            be 2 x.duration ++ be 3 x.speed ++ be 2 x.grade ++
              [byte (marks [x.isEnd, x.cue.isSome]),
                (match x.cue with
                  | none => 0#8
                  | some cue => byte cue)]) ++
        [byte q.pulse]) ∧
    answers (.readLines h) 0xD3#8 129
      ((LineId.all.flatMap fun l =>
          let f := u.settings.functions.line l
          [byte (functionCode f), byte (u.settings.counts.line l),
            (match (u.qualifiers.line l).value with
              | none => 2#8
              | some v => flag v),
            flag (u.latches.line l),
            (match f with
              | .generalIn | .input _ => 0#8
              | .generalOut => if u.latches.line l then 2#8 else 1#8
              | .output o => if getOutput u o then 2#8 else 1#8)]) ++
        [byte u.settings.periods.g1, byte u.settings.periods.g2, byte u.settings.periods.g3] ++
        be 3 (marks (allInputs.map (getInput u.inputs))) ++
        [permits, byte (marks [u.brakeHold.fl, u.brakeHold.fr, u.brakeHold.rl, u.brakeHold.rr, u.liftInhibit,
          u.runLamp, u.markOut])]) ∧
    answers (.readTime h) 0xE2#8 17
      (be 4 c.time.toNat ++ be 4 c.compare.toNat ++ [byte (sourceCode c.source)] ++ be 2 c.markCount.toNat ++
        (match c.lastMark with
          | none => [0#8, 0#8, 0#8, 0#8, 0#8]
          | some time => 1#8 :: be 4 time.toNat)) ∧
    answers (.readCounters h 0) 0xF3#8 133 counters ∧
    exec (.readCounters h 1) s =
      .next (taken h 0xF3#8 0 counters none (onCounters (fun _ => .zero) (heard s))) ∧
    (∀ o, 1 < o → exec (.readCounters h o) s = .next (refusedWith h 0x73#8 .range s)) ∧
    answers (.readIdentity h) 0xF4#8 10
      (be 2 0x0317 ++ be 2 0x4420 ++ [1#8] ++ be 4 Config.serialNumber.toNat) ∧
    answers (.readStatus h) 0xF5#8 17
      ([byte (modeCode s.shaft.mode), byte (stopCauseCode s.shaft.stopCause),
          byte (couplingCode s.coupling.roller.fl.state), byte (couplingCode s.coupling.roller.fr.state),
          byte (couplingCode s.coupling.roller.rl.state), byte (couplingCode s.coupling.roller.rr.state),
          byte (runCode q.run), byte q.points.length, byte (s.notice.events.length + s.notice.samples.length),
          flag s.notice.overflow, permits, byte (activityCode s.store.activity),
          (if s.store.activity = .storing then byte (stageCode s.store.stage) else 0#8)] ++
        (match s.store.lastOutcome with
          | .none => [0#8, 0#8]
          | .ok => [1#8, 3#8]
          | .failed stage => [2#8, byte (stageCode stage)]) ++
        [if s.store.lastImage then 0#8 else 1#8])

/-- The force sum, grade in use, grade force and road-load magnitude that an interval computes with, and the five
cases of the net force (R19 to R22). -/
def Obligations.NetForceByCase : Prop :=
  ∀ s : State,
    let count (c : Channel) : Int := if c.forceRecord.contributing then c.forceRecord.force else 0
    let fMeas := count s.channel.fl + count s.channel.fr + count s.channel.rl + count s.channel.rr
    let road := s.shaft.settings.road
    let g := if s.profile.record.run = .running then s.profile.record.grade else road.grade
    let fGrade := rdiv ((road.m : Int) * g * 980665) 100000000
    let v := s.shaft.speed
    let w := rdiv (if v < 0 then -v else v) 65536
    let r := (road.a : Int) + rdiv (road.b * w) 100000 + rdiv (road.c * (w * w)) 10000000000
    let d := fMeas - fGrade
    ∃ t, exec .shaftInterval s = .next t ∧
      t.shaft.record.fMeas = fMeas ∧ t.shaft.record.grade = g ∧ t.shaft.record.fGrade = fGrade ∧
      intervalForce s = fMeas + t.shaft.record.roadLoad - fGrade ∧
      (0 < v → t.shaft.record.roadLoad = -r) ∧ (v < 0 → t.shaft.record.roadLoad = r) ∧
      (v = 0 → -(road.a : Int) ≤ d → d ≤ road.a → intervalForce s = 0) ∧
      (v = 0 → (road.a : Int) < d → intervalForce s = d - road.a) ∧
      (v = 0 → d < -(road.a : Int) → intervalForce s = d + road.a)

/-- The speed after an interval, mode by mode (R23 to R28), and the two flags of the record; `intervalForce s` is the
net force of the interval. -/
def Obligations.IntervalSpeedByMode : Prop :=
  ∀ s : State, ∃ t, exec .shaftInterval s = .next t ∧
    let sh := s.shaft
    let v := sh.speed
    let clamped (x : Int) : Int :=
      clampTo (-(sh.settings.limits.vRev : Int) * 65536) ((sh.settings.limits.vMax : Int) * 65536) x
    let moved (x : Int) : Prop := t.shaft.speed = clamped x ∧ t.shaft.record.speedLimited = decide (clamped x ≠ x)
    let toward (dv : Int) : Prop :=
      moved (v + clampTo (-sh.dvLim) sh.dvLim dv) ∧
        t.shaft.record.accLimited = decide (clampTo (-sh.dvLim) sh.dvLim dv ≠ dv)
    (sh.mode = .idle →
      t.shaft.speed = 0 ∧ t.shaft.record.accLimited = false ∧ t.shaft.record.speedLimited = false) ∧
    (sh.mode = .roadLoad →
      let dv := rdiv (intervalForce s * 65536) (10 * (sh.settings.road.m : Int))
      let dv' := clampTo (-sh.dvLim) sh.dvLim dv
      let x := if (0 < v ∧ v + dv' ≤ 0) ∨ (v < 0 ∧ 0 ≤ v + dv') then 0 else v + dv'
      moved x ∧ t.shaft.record.accLimited = decide (dv' ≠ dv)) ∧
    (sh.mode = .speedProfile → s.profile.record.run = .running → toward (s.profile.record.target - v)) ∧
    (sh.mode = .speedProfile → s.profile.record.run ≠ .running → moved v ∧ t.shaft.record.accLimited = false) ∧
    (sh.mode = .constantSpeed → toward (sh.settings.setpoint * 65536 - v)) ∧
    (sh.mode = .stopping → sh.dvStop < mag v →
      moved (if 0 < v then v - sh.dvStop else v + sh.dvStop) ∧ t.shaft.record.accLimited = true ∧
        t.shaft.mode = .stopping) ∧
    (sh.mode = .stopping → mag v ≤ sh.dvStop →
      moved 0 ∧ t.shaft.record.accLimited = false ∧ t.shaft.mode = .idle) ∧
    (sh.mode ≠ .stopping → t.shaft.mode = sh.mode)

/-- What an interval publishes and what it leaves (R18, R29, R30): the distance advances by exactly the new speed
modulo 2³² µm with its fraction, the record is the next in sequence, and only the shaft model's running state and the
hand-overs change, with the MODE CHANGE notice at the end of a stop (R11). -/
def Obligations.IntervalPublishesItsRecord : Prop :=
  ∀ s : State, ∃ t, exec .shaftInterval s = .next t ∧
    let r := t.shaft.record
    t.shaft.distance.raw = (s.shaft.distance.raw + t.shaft.speed) % 281474976710656 ∧
    r.seq = s.shaft.record.seq + 1 ∧ r.mode = t.shaft.mode ∧ r.speed = t.shaft.speed ∧
    r.dv = t.shaft.speed - s.shaft.speed ∧ t.shaft.lastDv = r.dv ∧ r.distance = t.shaft.distance.um ∧
    r.traceSpeed =
      (if s.profile.record.run = .running then some (rdiv s.profile.record.target 65536) else none) ∧
    t.shaft.stopCause = s.shaft.stopCause ∧
    ∃ seq, t = sendRecord r
      { (if s.shaft.mode = .stopping ∧ t.shaft.mode = .idle then
          reportPlain .shaft (.modeChange .stopping .idle s.shaft.stopCause 0 seq) s
         else s) with
        shaft :=
          { s.shaft with
            mode := t.shaft.mode, speed := t.shaft.speed, distance := t.shaft.distance
            lastDv := t.shaft.lastDv, record := r } }

/-- An interval in STOPPING (R27): the speed moves toward 0 by dv_stop with the acceleration limited flag set, or
lands on 0 exactly with the flag clear, the mode IDLE, the MODE CHANGE notice sent and the record of the final step;
the distance advances as in every mode. A stop takes ⌈|v| / dv_stop⌉ intervals, and one from rest: before them the
part is still STOPPING, after them it is IDLE at speed 0. -/
def Obligations.StopTakesItsIntervals : Prop :=
  ∀ s : State, s.shaft.mode = .stopping →
    (∃ t, exec .shaftInterval s = .next t ∧
      t.shaft.distance.raw = (s.shaft.distance.raw + t.shaft.speed) % 281474976710656 ∧
      (s.shaft.dvStop < mag s.shaft.speed →
        t.shaft.speed =
            clampTo (-(s.shaft.settings.limits.vRev : Int) * 65536) ((s.shaft.settings.limits.vMax : Int) * 65536)
              (if 0 < s.shaft.speed then s.shaft.speed - s.shaft.dvStop else s.shaft.speed + s.shaft.dvStop) ∧
          t.shaft.record.accLimited = true ∧ t.shaft.mode = .stopping ∧ t.mail.reports = s.mail.reports) ∧
      (mag s.shaft.speed ≤ s.shaft.dvStop →
        t.shaft.speed = 0 ∧ t.shaft.mode = .idle ∧ t.shaft.record.accLimited = false ∧
          t.shaft.record.mode = .idle ∧ t.shaft.record.speed = 0 ∧ t.shaft.record.dv = -s.shaft.speed ∧
          ∃ seq, t.mail.reports.shaft =
            s.mail.reports.shaft ++ [⟨none, .modeChange .stopping .idle s.shaft.stopCause 0 seq⟩])) ∧
    ∀ n : Nat, 0 < s.shaft.dvStop → speedLawful s.shaft = true →
      (n : Int) = (if s.shaft.speed = 0 then 1 else (mag s.shaft.speed + s.shaft.dvStop - 1) / s.shaft.dvStop) →
      (∀ m < n, (repeated .shaftInterval m s).shaft.mode = .stopping) ∧
      (repeated .shaftInterval n s).shaft.mode = .idle ∧ (repeated .shaftInterval n s).shaft.speed = 0

/-- The law of R25: apart from a reset, which sets it to zero, the reference speed changes by no more than the larger of
dv_lim and dv_stop in one interval, and no other command or event moves it; it always lies within −v_rev to v_max, and
is 0 in IDLE. The limits of an autoload are taken in IDLE (R32 note 1): by the invariant `handoverLawful`, carried along
(assumption 10), a hand-over that waits finds the mode IDLE. -/
def Obligations.SpeedObeysItsLaw : Prop :=
  ∀ (i : Instr) (s t : State), speedLawful s.shaft = true → exec i s = .next t →
    (handoverLawful s = true → speedLawful t.shaft = true ∧ handoverLawful t = true) ∧
    ((s.mail.handover.shaft = none ∨ s.shaft.mode = .idle) → speedLawful t.shaft = true) ∧
    (0 ≤ s.shaft.dvLim → 0 ≤ s.shaft.dvStop →
      t.shaft.speed = s.shaft.speed ∨ (t.shaft.speed = 0 ∧ t.shaft.mode = .idle ∧ t.shaft.record.seq = 0#16) ∨
        (i = .shaftInterval ∧ mag (t.shaft.speed - s.shaft.speed) ≤ max s.shaft.dvLim s.shaft.dvStop))

/-- The mode and the stop cause change only as the table of 1.2.5 gathers it, and the stop cause of a running mode
stays none (R4 to R11). -/
def Obligations.ModeMovesByTheTable : Prop :=
  ∀ (i : Instr) (s t : State), exec i s = .next t →
    modeMoves s.shaft.mode s.shaft.stopCause t.shaft.mode t.shaft.stopCause = true ∧
    ((running s.shaft.mode = true → s.shaft.stopCause = .none) →
      (running t.shaft.mode = true → t.shaft.stopCause = .none))

/-- The events that reach the shaft model (R3, R8 to R10, R97, R113), the next that waits of each kind: what the shaft
model becomes, and what every entry into STOPPING does, whatever the cause (R6): the cause held, the speed kept, an ARMED
or RUNNING run handed an abandonment, the MODE CHANGE notice of R11. How the count follows the changes told, and that
NO_ROLLERS acts when it goes from nonzero to 0, is the model's reading, assumption 18; that ESTOP in STOPPING sends its
notice whatever the cause held, assumption 19. -/
def Obligations.ShaftTakesEvents : Prop :=
  ∀ s : State,
    let stopping (cause : StopCause) (u : State) : State :=
      reportPlain .shaft (.modeChange s.shaft.mode .stopping cause (rdiv s.shaft.speed 65536) s.shaft.record.seq)
        { u with
          shaft := { u.shaft with mode := .stopping, stopCause := cause }
          mail :=
            { u.mail with
              abandonment := u.mail.abandonment ++
                if s.profile.record.run = .armed ∨ s.profile.record.run = .running then [.stop] else [] } }
    (∀ e rest, s.mail.permitToShaft = e :: rest →
      let s' := { s with
        mail := { s.mail with permitToShaft := rest }, shaft := { s.shaft with permitView := e.present } }
      exec .shaftRunPermitChange s = .next
        (if e.present ∧ ¬e.estopMark then s'
         else if running s.shaft.mode then stopping (if e.estopMark then .estop else .permit) s'
         else if s.shaft.mode = .stopping ∧ e.estopMark then
          reportPlain .shaft (.modeChange .stopping .stopping .estop (rdiv s.shaft.speed 65536) s.shaft.record.seq)
            { s' with shaft := { s'.shaft with stopCause := .estop } }
         else s')) ∧
    (∀ k c rest, s.mail.changeToShaft.get k = c :: rest →
      let n := s.shaft.contributing + (if attached c.new then 1 else 0) - (if attached c.previous then 1 else 0)
      let s' := { s with
        mail := { s.mail with changeToShaft := s.mail.changeToShaft.set k rest }
        shaft := { s.shaft with contributing := n } }
      exec (.shaftCouplingChange k) s = .next
        (if s.shaft.contributing ≠ 0 ∧ n = 0 ∧ running s.shaft.mode then stopping .noRollers s' else s')) ∧
    (∀ n, s.mail.skewFault = n + 1 →
      let s' := { s with mail := { s.mail with skewFault := n } }
      exec .shaftSkewFault s = .next (if running s.shaft.mode then stopping .skew s' else s')) ∧
    (∀ x rest, s.mail.toShaft = x :: rest →
      let s' := { s with mail := { s.mail with toShaft := rest } }
      let constant (setpoint : Int) : State :=
        reportPlain .shaft
          (.modeChange .speedProfile .constantSpeed s.shaft.stopCause (rdiv s.shaft.speed 65536) s.shaft.record.seq)
          { s' with
            shaft :=
              { s.shaft with
                mode := .constantSpeed, settings := { s.shaft.settings with setpoint := setpoint } } }
      match x with
      | .finish v =>
        exec .shaftProfileFinish s = .next
          (if s.shaft.mode = .speedProfile then
            constant (clampTo (-(s.shaft.settings.limits.vRev : Int)) s.shaft.settings.limits.vMax v)
           else s')
      | .abandonment =>
        exec .shaftProfileAbandon s = .next
          (if s.shaft.mode = .speedProfile then constant (rdiv s.shaft.speed 65536) else s')
      | .starvation =>
        exec .shaftProfileStarved s = .next
          (if s.shaft.mode = .speedProfile then stopping .underrun s' else s'))

/-! ## Roller channels (chapter 2) -/

/-- SET ROLLER and ZERO FORCE (R33, R34, R44, R187): the checks in their order; GAINS in every coupling state, FULL and
ZERO FORCE only in DETACHED and RELEASED_UNACK with no zeroing in flight. -/
def Obligations.RollerCommandsAreChecked : Prop :=
  ∀ (h : Head) (s : State), hears h s →
    (∀ n form body, (n = 0 ∨ 4 < n ∨ 1 < form) → lengthOk (.setRoller n form body) = true →
      exec (.setRoller h n form body) s = .next (refusedWith h 0x20#8 .range s)) ∧
    (∀ n kp kv, exec (.setRoller h n 1 (.gains kp kv)) s = .next (refusedWith h 0x20#8 .length s)) ∧
    (∀ n f, exec (.setRoller h n 0 (.full f)) s = .next (refusedWith h 0x20#8 .length s)) ∧
    (∀ n, (n = 0 ∨ 4 < n) → exec (.zeroForce h n) s = .next (refusedWith h 0x22#8 .range s)) ∧
    ∀ k : Roller,
      let c := s.channel.get k
      let with' (x : Channel) : State := { heard s with channel := s.channel.set k x }
      (∀ kp kv, exec (.setRoller h (rollerNum k) 0 (.gains kp kv)) s = .next
        (if kp ≤ 65535 ∧ kv ≤ 65535 then
          taken h 0xA0#8 0 [] none (with' { c with settings := { c.settings with kp := kp, kv := kv } })
         else refusedWith h 0x20#8 .range s)) ∧
      (∀ f : RollerFields, exec (.setRoller h (rollerNum k) 1 (.full f)) s = .next
        (if f.direction ≤ 1 ∧ f.scale ≤ 16777215 ∧ 50 ≤ f.mass ∧ f.mass ≤ 5000 ∧ 1 ≤ f.gain ∧ f.gain ≤ 1048575 ∧
            -8388608 ≤ f.zero ∧ f.zero ≤ 8388607 ∧ f.dMax ≤ 250000 ∧ 1000 ≤ f.overspeed ∧ f.overspeed ≤ 90000 ∧
            f.countsPerRev ≤ 4194304 ∧ f.indexTol ≤ 1000 ∧ f.kp ≤ 65535 ∧ f.kv ≤ 65535 then
          if resting (s.coupling.roller.get k).state = false then refusedWith h 0x20#8 .state s
          else if c.zeroing.isSome then refusedWith h 0x20#8 .busy s
          else
            taken h 0xA0#8 0 [] none
              (with'
                { c with
                  indexArmed := false
                  settings :=
                    { scale := f.scale, direction := if f.direction = 0 then .normal else .inverted
                      mass := f.mass, gain := f.gain, zero := f.zero, dMax := f.dMax, overspeed := f.overspeed
                      countsPerRev := f.countsPerRev, indexTol := f.indexTol, kp := f.kp, kv := f.kv } })
         else refusedWith h 0x20#8 .range s)) ∧
      exec (.zeroForce h (rollerNum k)) s = .next
        (if resting (s.coupling.roller.get k).state = false then refusedWith h 0x22#8 .state s
         else if c.zeroing.isSome then refusedWith h 0x22#8 .busy s
         else taken h 0xA2#8 0 [] none (with' { c with zeroing := some { sum := 0, count := 0 } }))

/-- The law of R34: S, direction, m_roll, G, Z, D_max, overspeed limit and index parameters do not change while the
roller is in a state other than DETACHED or RELEASED_UNACK. It rests on no zeroing being in flight there, which every
command and event keeps. A power-on reset sets the record to its default (R182); a hand-over meets resting rollers only,
by the invariant `handoverLawful` (R176, assumption 10). -/
def Obligations.RollerGeometryIsFrozen : Prop :=
  ∀ (i : Instr) (s t : State) (k : Roller),
    ((s.channel.get k).zeroing.isSome = true → resting (s.coupling.roller.get k).state = true) →
    exec i s = .next t →
    ((t.channel.get k).zeroing.isSome = true → resting (t.coupling.roller.get k).state = true) ∧
    (resting (s.coupling.roller.get k).state = false → 
      (i = .settingsHandover (.channel k) → handoverLawful s = true) → (∀ n, i ≠ .powerOnReset n) →
      geometry (t.channel.get k).settings = geometry (s.channel.get k).settings)

/-- The encoder input (R37): one step of the sequence 00, 10, 11, 01, 00 counts up with NORMAL and down with INVERTED,
a step against it the other way, wrapping at 32 bits; both phases changing is an illegal transition, counted and
leaving the count. The direction is the one in effect, which a SET ROLLER changes at the next interval: the model's
reading of R35 (assumption 21). The bytes of a force converter (R40, R188): five, the first after a gap above 100 µs and
the others within it, are a reading when they sum to 0 modulo 256 and are dropped otherwise; they may arrive in any
number of events. Fewer than five are kept and leave the reading held as it is. That a complete reading, good or dropped,
leaves no byte held, so that a byte within 100 µs of it starts the next, is the model's choice (assumption 38). -/
def Obligations.EncoderAndConverterAreRead : Prop :=
  ∀ (k : Roller) (s : State),
    let c := s.channel.get k
    let place (a b : Bool) : Nat := if a then (if b then 2 else 1) else if b then 3 else 0
    (∀ p1 p2 : Bool,
      let with' (x : Channel) : State := { s with channel := s.channel.set k { x with phase1 := p1, phase2 := p2 } }
      exec (.encoderTransition k p1 p2) s = .next
        (match (place p1 p2 + 4 - place c.phase1 c.phase2) % 4 with
          | 0 => s
          | 1 => with' { c with count := if c.direction = .normal then c.count + 1 else c.count - 1 }
          | 3 => with' { c with count := if c.direction = .normal then c.count - 1 else c.count + 1 }
          | _ => countIllegal k (with' { c with illegal := if c.illegal < 255 then c.illegal + 1 else c.illegal }))) ∧
    (∀ (b0 b1 b2 b3 b4 : Byte) (g0 g1 g2 g3 g4 : Nat),
      100 < g0 → g1 ≤ 100 → g2 ≤ 100 → g3 ≤ 100 → g4 ≤ 100 →
      exec (.forceReading k [(g0, b0), (g1, b1), (g2, b2), (g3, b3), (g4, b4)]) s = .next
        { s with
          channel := s.channel.set k
            { c with
              rxBytes := []
              held :=
                if b0 + b1 + b2 + b3 + b4 = 0#8 then
                  some ⟨(b0 ++ b1 ++ b2).toInt, if b3 = 0#8 then .valid else if b3 = 1#8 then .overRange else .none⟩
                else c.held } }) ∧
    (∀ (b : Byte) (g : Nat), 100 < g → exec (.forceReading k [(g, b)]) s = .next
      { s with channel := s.channel.set k { c with rxBytes := [b] } }) ∧
    (∀ (b : Byte) (g : Nat), g ≤ 100 → c.rxBytes.length < 4 → exec (.forceReading k [(g, b)]) s = .next
      { s with channel := s.channel.set k { c with rxBytes := c.rxBytes ++ [b] } }) ∧
    ∀ xs ys t, exec (.forceReading k xs) s = .next t →
      exec (.forceReading k (xs ++ ys)) s = exec (.forceReading k ys) t

/-- An index edge (R56, R57): the first after arming is taken as the reference; a later one passes when the counts since
the last agree with one revolution, or with none, within the tolerance; any other raises an INDEX fault. That the counts
per revolution and the tolerance are those of the record as it stands at the edge is the model's reading of R35
(assumption 21); that the demand and enable held stay after the fault until the next interval, its reading of R57
(assumption 22). -/
def Obligations.IndexEdgeIsChecked : Prop :=
  ∀ (k : Roller) (s : State) (n : Nat), s.mail.indexEdge.get k = n + 1 →
    let c := s.channel.get k
    let s' : State := { s with mail := { s.mail with indexEdge := s.mail.indexEdge.set k n } }
    let delta := (c.count - c.indexRef).toInt
    let with' (x : Channel) (u : State) : State :=
      { u with channel := u.channel.set k { x with indexArmed := true, indexRef := c.count } }
    let fault : FaultRecord := { kind := .index, time := s.timer.time, view := c.view, detail := delta }
    exec (.indexEdge k) s = .next
      (if c.settings.countsPerRev = 0 then s'
       else if c.indexArmed = false ∨ mag (mag delta - c.settings.countsPerRev) ≤ c.settings.indexTol ∨
          mag delta ≤ c.settings.indexTol then with' c s'
       else if c.view = .detached ∨ c.view = .releasedUnack then
         countFault k .index (with' { c with lastFault := some fault } s')
       else
         sendFault k .index
           (countFault k .index (with' { c with lastFault := some fault, faultHold := true } s')))

/-- Stages 1 to 3 and 5 of a channel's interval (R38 to R46, R52): position, speed, reading, force, zeroing and force
record, and what the interval leaves unchanged: of the events that wait, it adds only this channel's messages, its faults
and its report of a zeroing that ends. ZEROING DONE is the interval that takes the 128th VALID reading: the
average becomes Z, that interval's force still formed with the old Z (assumption 5). That the direction in effect
becomes the record's at the interval is the model's reading of R35 (assumption 21). -/
def Obligations.ChannelFormsItsMeasurement : Prop :=
  ∀ (k : Roller) (s : State), ∃ t, exec (.channelInterval k) s = .next t ∧
    let c := s.channel.get k
    let d := t.channel.get k
    let inc := (c.count - c.prevCount).toInt * (c.settings.scale : Int)
    let reading : Reading := match c.held with
      | some r => r
      | none => ⟨c.used.raw, .none⟩
    let f := rdiv ((reading.raw - c.settings.zero) * (c.settings.gain : Int)) 65536
    t = { s with
      channel := s.channel.set k d
      mail :=
        { s.mail with
          fromChannel := s.mail.fromChannel.set k (t.mail.fromChannel.get k)
          fault := s.mail.fault.set k (t.mail.fault.get k)
          reports :=
            { s.mail.reports with
              channel := s.mail.reports.channel.set k (t.mail.reports.channel.get k) } }
      store := { s.store with counters := t.store.counters } } ∧
    d.count = c.count ∧ d.prevCount = c.count ∧ d.direction = c.settings.direction ∧
    d.pos.raw = (c.pos.raw + inc) % 281474976710656 ∧
    d.window = ⟨c.window.p2, c.window.p3, c.window.p4, c.window.p5, c.window.p6, c.window.p7, c.window.p8, inc⟩ ∧
    d.vMeas = rdiv (c.window.p2 + c.window.p3 + c.window.p4 + c.window.p5 + c.window.p6 + c.window.p7 +
      c.window.p8 + inc) 524288 ∧
    d.held = none ∧ d.used = reading ∧
    (reading.status = .valid →
      d.force = clampTo (-200000) 200000 f ∧ d.limited = decide (d.force ≠ f) ∧ d.age = 0) ∧
    (reading.status ≠ .valid → d.force = c.force ∧ d.limited = c.limited ∧
      d.age = if c.age < 255 then c.age + 1 else c.age) ∧
    d.forceRecord =
      { force := d.force, age := d.age, limited := d.limited, contributing := attached c.view
        refSeq := s.shaft.record.seq } ∧
    d.view = c.view ∧ d.indexArmed = c.indexArmed ∧ d.indexRef = c.indexRef ∧ d.rxBytes = c.rxBytes ∧
    d.phase1 = c.phase1 ∧ d.phase2 = c.phase2 ∧
    (c.zeroing = none → d.zeroing = none ∧ d.settings = c.settings ∧ t.mail.reports = s.mail.reports ∧
      exec (.zeroingDone k) s = .next s) ∧
    ∀ z, c.zeroing = some z →
      let ended (ok : Bool) (zero : Int) (n : Nat) : Prop :=
        d.zeroing = none ∧ d.settings = { c.settings with zero := zero } ∧
          t.mail.reports.channel.get k = s.mail.reports.channel.get k ++
            [⟨none, .zeroDone k ok zero n reading.status⟩]
      if reading.status ≠ .valid then ended false c.settings.zero z.count ∧ exec (.zeroingDone k) s = .next s
      else if z.count < 127 then
        d.zeroing = some ⟨z.sum + reading.raw, z.count + 1⟩ ∧ d.settings = c.settings ∧
          t.mail.reports = s.mail.reports ∧ exec (.zeroingDone k) s = .next s
      else ended true (rdiv (z.sum + reading.raw) 128) (z.count + 1) ∧ exec (.zeroingDone k) s = .next t

/-- Stage 4 of a channel's interval (R53 to R57): the three conditions, the counter and last-fault record at the start
of an episode, the hand-off and the fault hold at every interval a condition is present in a view that drives; and
FORCE FAULT, the interval at which the force age reaches 4 (assumption 5). Which fault the last-fault record keeps and
the order of hand-off when episodes begin together are the model's reading (assumption 25). -/
def Obligations.ChannelRaisesItsFaults : Prop :=
  ∀ (k : Roller) (s : State), ∃ t, exec (.channelInterval k) s = .next t ∧
    let c := s.channel.get k
    let d := t.channel.get k
    let encoder := decide (4 ≤ c.illegal)
    let overspeed := decide ((c.settings.overspeed : Int) < mag d.vMeas)
    let force := decide (4 ≤ d.age)
    let n := s.store.counters.roller.get k
    let record (kind : FaultKind) (detail : Int) : Option FaultRecord :=
      some { kind := kind, time := s.timer.time, view := c.view, detail := detail }
    let handed : List FaultKind :=
      if c.view = .detached ∨ c.view = .releasedUnack then []
      else (if encoder then [.encoder] else []) ++ (if overspeed then [.overspeed] else []) ++
        if force then [.force] else []
    d.illegal = 0 ∧ d.encoderPresent = encoder ∧ d.overspeedPresent = overspeed ∧ d.forcePresent = force ∧
    d.lastFault =
      (if force ∧ ¬c.forcePresent then record .force (statusCode d.used.status)
       else if overspeed ∧ ¬c.overspeedPresent then record .overspeed d.vMeas
       else if encoder ∧ ¬c.encoderPresent then record .encoder c.illegal
       else c.lastFault) ∧
    d.faultHold = (c.faultHold || !handed.isEmpty) ∧
    t.mail.fault = s.mail.fault.set k (s.mail.fault.get k ++ handed) ∧
    t.store.counters =
      { s.store.counters with
        roller := s.store.counters.roller.set k
          { n with
            encoderFaults := if encoder ∧ ¬c.encoderPresent then bump n.encoderFaults else n.encoderFaults
            overspeedFaults := if overspeed ∧ ¬c.overspeedPresent then bump n.overspeedFaults else n.overspeedFaults
            forceFaults := if force ∧ ¬c.forcePresent then bump n.forceFaults else n.forceFaults
            saturatedIntervals := if d.saturated then bump n.saturatedIntervals else n.saturatedIntervals } } ∧
    exec (.forceFault k) s = .next (if c.age = 3 ∧ d.age = 4 then t else s)

/-- Stages 6 to 8 of a channel's interval (R48 to R52): the demand by the law of the view, clamped to ±D_max, 0 with
enable 0 while the fault hold is set; the frame next in sequence, and its nine bytes on the drive link (11.7); and the
measurement record, handed to the coupling controller after a ramp end of the same interval. RELEASE RAMP END is the
interval at which the ramp ends (assumption 5). That the saturated flag is clear under the fault hold and in views
without the clamp is the model's reading (assumption 24). -/
def Obligations.ChannelFormsItsDemand : Prop :=
  ∀ (k : Roller) (s : State), ∃ t, exec (.channelInterval k) s = .next t ∧
    let c := s.channel.get k
    let d := t.channel.get k
    let target := (s.target.roller.get k).record
    let ev := rdiv target.speed 65536 - d.vMeas
    let ex := if target.advanced then (target.pos.um - d.pos.um).toInt else 0
    let law := rdiv ((c.settings.mass : Int) * 10 * s.shaft.record.dv) 65536 - d.force +
      (if c.view = .matching then 0 else rdiv ((c.settings.kp : Int) * ex) 1000) + (c.settings.kv : Int) * ev
    let off : Prop := d.demand = 0 ∧ d.enable = false ∧ d.saturated = false
    let ends : Prop := c.view = .releasing ∧ d.faultHold = false ∧ (c.ramp.map (·.remaining)) = some 1
    let meas : MeasRecord :=
      { pos := d.pos, vMeas := d.vMeas, ev := ev, ex := ex, demand := d.demand, enable := d.enable
        saturated := d.saturated }
    ((d.faultHold = true ∨ undriven c.view = true) → off ∧ d.ramp = c.ramp) ∧
    (d.faultHold = false → attached c.view = true →
      d.demand = clampTo (-(c.settings.dMax : Int)) c.settings.dMax law ∧ d.enable = true ∧
        d.saturated = decide (d.demand ≠ law) ∧ d.ramp = c.ramp) ∧
    (∀ entry len n, d.faultHold = false → c.view = .releasing → c.ramp = some ⟨entry, len, n + 2⟩ →
      d.demand = rdiv (entry * ((n : Int) + 1)) len ∧ d.enable = true ∧ d.saturated = false ∧
        d.ramp = some ⟨entry, len, n + 1⟩) ∧
    (∀ entry len n, n ≤ 1 → d.faultHold = false → c.view = .releasing → c.ramp = some ⟨entry, len, n⟩ →
      off ∧ d.ramp = some ⟨entry, len, 0⟩) ∧
    d.frame = some { seq := c.nextFrame, enable := d.enable, demand := d.demand } ∧
    (let body := [c.nextFrame, flag d.enable] ++ be 4 d.demand
     d.frame.map demandFrameBytes =
      some ([0xA5#8] ++ body ++ [(crc16 body >>> 8).setWidth 8, (crc16 body).setWidth 8])) ∧
    d.nextFrame = c.nextFrame + 1 ∧ d.meas = meas ∧
    (ends → t.mail.fromChannel.get k = s.mail.fromChannel.get k ++ [.rampEnd, .measurement meas] ∧
      exec (.releaseRampEnd k) s = .next t) ∧
    (¬ends → t.mail.fromChannel.get k = s.mail.fromChannel.get k ++ [.measurement meas] ∧
      exec (.releaseRampEnd k) s = .next s)

/-- The laws of R43 and R51: a force record is marked contributing exactly when the channel holds its roller MATCHING,
LOCKED or LOST_LOCK, its force is within ±200 000 dN, and the demand is 0 with enable off whenever the channel holds
the roller DETACHED, PENDING_ATTACH or RELEASED_UNACK. -/
def Obligations.ForceMarkAndDemandLaws : Prop :=
  ∀ (i : Instr) (s t : State) (k : Roller),
    forceLawful (s.channel.get k) = true → demandLawful (s.channel.get k) = true → exec i s = .next t →
    forceLawful (t.channel.get k) = true ∧ demandLawful (t.channel.get k) = true

/-- The law of R51 that a roller's demand is at most its D_max. It is carried by `demandBounded`, which excepts the time
between a change of the roller to an undriven state and its channel's taking of it, and by the channel's view
following the coupling state (R73). A hand-over is taken in DETACHED and RELEASED_UNACK: the premise on it follows
from the invariant `handoverLawful` (`Obligations.LinkAndStoreLawsHold`, assumption 10). -/
def Obligations.DemandStaysWithinItsLimit : Prop :=
  ∀ (i : Instr) (s t : State) (k : Roller),
    demandBounded s k = true →
    ((s.mail.handover.channel.get k) = none ∨ resting (s.coupling.roller.get k).state = true) →
    exec i s = .next t → demandBounded t k = true

/-! ## Target formation (chapter 3) -/

/-- SET RATIO, SELECT RATIO and NUDGE (R60, R61, R69). -/
def Obligations.RatioCommandsAreTaken : Prop :=
  ∀ (h : Head) (s : State), hears h s →
    (∀ n goal, (n = 0 ∨ 7 < n) → exec (.setRatio h n goal) s = .next (refusedWith h 0x28#8 .range s)) ∧
    (∀ n goal e, entryOfNum n = some e → exec (.setRatio h n goal) s = .next
      (let g := clampTo (-50000) 50000 goal
       taken h 0xA8#8 (if g = goal then 0 else 1) (be 4 g ++ be 4 (s.target.current.get e)) none
        { heard s with
          target :=
            { s.target with
              settings := { s.target.settings with goals := s.target.settings.goals.set e g } } })) ∧
    (∀ n m, (n = 0 ∨ 4 < n ∨ 7 < m) → exec (.selectRatio h n m) s = .next (refusedWith h 0x29#8 .range s)) ∧
    (∀ n d, (n = 0 ∨ 4 < n ∨ d < -65535 ∨ 65535 < d) →
      exec (.nudge h n d) s = .next (refusedWith h 0x2A#8 .range s)) ∧
    ∀ k : Roller,
      let state := (s.coupling.roller.get k).state
      (∀ m, m ≤ 7 → exec (.selectRatio h (rollerNum k) m) s = .next
        (if state = .locked ∨ state = .lostLock then refusedWith h 0x29#8 .state s
         else if s.target.settings.selects.get k = m then taken h 0xA9#8 1 [] none (heard s)
         else
          taken h 0xA9#8 0 [] none
            { heard s with
              target :=
                { s.target with
                  settings := { s.target.settings with selects := s.target.settings.selects.set k m } } })) ∧
      (∀ d, -65535 ≤ d → d ≤ 65535 → exec (.nudge h (rollerNum k) d) s = .next
        (let x := s.target.roller.get k
         let held := clampTo (-65535) 65535 (x.nudge + d)
         if state ≠ .locked ∧ state ≠ .lostLock then refusedWith h 0x2A#8 .state s
         else
          taken h 0xAA#8 (if held = x.nudge + d then 0 else 1) (be 4 held) none
            { heard s with
              target := { s.target with roller := s.target.roller.set k { x with nudge := held } } }))

/-- The interval of target formation (R59, R63 to R66, R68): the seven entries slew, and each roller's target speed and
position are formed with the values after the slew; nothing else changes. -/
def Obligations.TargetsOfAnInterval : Prop :=
  ∀ s : State, ∃ t, exec .targetInterval s = .next t ∧
    t = { s with target := t.target } ∧ t.target.settings = s.target.settings ∧
    (∀ e : Entry,
      let goal := s.target.settings.goals.get e
      let now := s.target.current.get e
      t.target.current.get e =
        if now < goal then min goal (now + 10) else if goal < now then max goal (now - 10) else now) ∧
    ∀ k : Roller,
      let x := s.target.roller.get k
      let y := t.target.roller.get k
      let m := s.target.settings.selects.get k
      let p : Int := match entryOfNum m with
        | some e => t.target.current.get e
        | none => 0
      let v := s.shaft.record.speed + rdiv (s.shaft.record.speed * p) 1000000
      y.view = x.view ∧ y.speed = v ∧
      y.record.refSeq = s.shaft.record.seq ∧ y.record.select = m ∧ y.record.ratio = p ∧ y.record.speed = v ∧
      y.record.pos = y.pos ∧
      (x.view = .locked ∨ x.view = .lostLock →
        y.pos.raw = (x.pos.raw + v + x.nudge * 65536) % 281474976710656 ∧ y.nudge = 0 ∧
          y.record.advanced = true ∧ y.record.nudge = x.nudge) ∧
      (x.view ≠ .locked → x.view ≠ .lostLock →
        y.pos = (s.channel.get k).meas.pos ∧ y.nudge = x.nudge ∧ y.record.advanced = false ∧ y.record.nudge = 0)

/-- The slew of R59: an interval moves the current value of every entry toward its goal by at most 10 ppm, whether or
not any roller selects it, and the targets use the value after it; the goal is reached in ⌈|goal − current| / 10⌉
intervals, in steps of 10 until then, and held; a new goal leaves the current value as it stands; and goals and
current values stay within −50 000 … 50 000 under every command and event. -/
def Obligations.SlewReachesItsGoal : Prop :=
  ∀ (e : Entry) (s : State),
    let goal := s.target.settings.goals.get e
    let now := s.target.current.get e
    (∃ t, exec .targetInterval s = .next t ∧
      t.target.current.get e = (if mag (goal - now) ≤ 10 then goal else if now < goal then now + 10 else now - 10) ∧
      ∀ k, entryOfNum (s.target.settings.selects.get k) = some e →
        (t.target.roller.get k).record.ratio = t.target.current.get e) ∧
    (∀ n : Nat,
      (mag (goal - now) ≤ 10 * (n : Int) → (repeated .targetInterval n s).target.current.get e = goal) ∧
      (10 * (n : Int) < mag (goal - now) →
        (repeated .targetInterval n s).target.current.get e =
          if now < goal then now + 10 * (n : Int) else now - 10 * (n : Int))) ∧
    (∀ (h : Head) (n : Nat) (g : Int) (t : State), exec (.setRatio h n g) s = .next t →
      t.target.current = s.target.current) ∧
    ∀ (i : Instr) (t : State), ratiosLawful s = true → exec i s = .next t → ratiosLawful t = true

/-- The coupling changes a channel and target formation take. The channel (R43, R47, R50, R51): the view follows, the
fault hold is cleared, the force record is marked anew; in an undriven state demand and enable are 0 at once, in
RELEASING the ramp starts from the demand held, and any other change stops the ramp. Target formation (R62, R70): into
LOCKED from outside the locked views it captures the measured position; out of them it clears the pending nudge. That a
change into a driven state leaves the saturated flag until the next interval is the model's choice (assumption 24). -/
def Obligations.CouplingChangesAreFollowed : Prop :=
  ∀ (k : Roller) (s : State) (e : Change) (rest : List Change),
    (s.mail.changeToChannel.get k = e :: rest →
      let c := s.channel.get k
      let with' (x : Channel) : State :=
        { s with
          mail := { s.mail with changeToChannel := s.mail.changeToChannel.set k rest }
          channel := s.channel.set k
            { x with
              view := e.new, faultHold := false
              forceRecord := { c.forceRecord with contributing := attached e.new } } }
      exec (.channelCouplingChange k) s = .next
        (if undriven e.new then with' { c with demand := 0, enable := false, saturated := false, ramp := none }
         else if e.new = .releasing then
           with' { c with ramp := some ⟨c.demand, s.coupling.params.ramp, s.coupling.params.ramp⟩ }
         else with' { c with ramp := none })) ∧
    (s.mail.changeToTarget.get k = e :: rest →
      let x := s.target.roller.get k
      let with' (y : TargetRoller) : State :=
        { s with
          mail := { s.mail with changeToTarget := s.mail.changeToTarget.set k rest }
          target := { s.target with roller := s.target.roller.set k { y with view := e.new } } }
      exec (.targetCouplingChange k) s = .next
        (if x.view = .locked ∨ x.view = .lostLock then
          if e.new = .locked ∨ e.new = .lostLock then with' x else with' { x with nudge := 0 }
         else if e.new = .locked then with' { x with pos := (s.channel.get k).meas.pos }
         else with' x))

/-! ## Coupling controller (chapter 4) -/

/-- ATTACH and ACKNOWLEDGE RELEASE (R78, R92), with the change event of R73, and SET COUPLING with parameters in
the ranges of R75 (R76). -/
def Obligations.AttachAndAcknowledge : Prop :=
  ∀ (h : Head) (s : State), hears h s →
    (∀ n, (n = 0 ∨ 4 < n) → exec (.attach h n) s = .next (refusedWith h 0x30#8 .range s) ∧
      exec (.acknowledgeRelease h n) s = .next (refusedWith h 0x33#8 .range s)) ∧
    (∀ p, exec (.setCoupling h (some p)) s = .next
      (if 1 ≤ p.vWin ∧ p.vWin ≤ 2000 ∧ 1 ≤ p.nMatch ∧ p.nMatch ≤ 1000 ∧ 100 ≤ p.xWin ∧ p.xWin ≤ 500000 ∧
          1 ≤ p.nLoss ∧ p.nLoss ≤ 1000 ∧ 1 ≤ p.nRelock ∧ p.nRelock ≤ 1000 ∧ 100 ≤ p.tLoss ∧ p.tLoss ≤ 60000 ∧
          100 ≤ p.tAttach ∧ p.tAttach ≤ 60000 ∧ 1 ≤ p.vStill ∧ p.vStill ≤ 500 ∧ 1 ≤ p.nSettle ∧ p.nSettle ≤ 1000 ∧
          1000 ≤ p.tRelease ∧ p.tRelease ≤ 60000 ∧ 1 ≤ p.ramp ∧ p.ramp ≤ 2000 ∧ 1000 ≤ p.skewLimit ∧
          p.skewLimit ≤ 500000 ∧ 1 ≤ p.skewFlywheel ∧ p.skewFlywheel ≤ 1000 then
        taken h 0xB4#8 0 (couplingBytes p) none { heard s with coupling := { s.coupling with params := p } }
       else refusedWith h 0x34#8 .range s)) ∧
    ∀ k : Roller,
      let r := s.coupling.roller.get k
      let goes (new : CouplingState) (reason : Reason) : State :=
        sendChange k { previous := r.state, new := new, reason := reason, time := s.timer.time }
          { heard s with
            coupling :=
              { s.coupling with
                roller := s.coupling.roller.set k
                  { r with state := new, count := 0, timer := 0, rampEnded := false } } }
      exec (.attach h (rollerNum k)) s = .next
        (match r.state with
          | .releasedUnack | .releasing => refusedWith h 0x30#8 .state s
          | .pendingAttach | .matching | .locked | .lostLock => taken h 0xB0#8 1 [] none (heard s)
          | .detached =>
            if (s.channel.get k).settings.scale = 0 then refusedWith h 0x30#8 .unconfigured s
            else if s.coupling.runPermitView = false then refusedWith h 0x30#8 .permit s
            else if (s.channel.get k).zeroing.isSome then refusedWith h 0x30#8 .busy s
            else taken h 0xB0#8 0 [] none (goes .pendingAttach .attach)) ∧
      exec (.acknowledgeRelease h (rollerNum k)) s = .next
        (if r.state = .releasedUnack then taken h 0xB3#8 0 [] none (goes .detached .acknowledged)
         else refusedWith h 0x33#8 .state s)

/-- RELEASE and ISOLATE (R85, R90, R93, R94): each roller concerned by its own state, a roller not concerned left as it
is, the five receivers told of each change (R73) and no other event sent, and the class by whether any roller changed
state. -/
def Obligations.ReleaseAndIsolate : Prop :=
  ∀ (h : Head) (n : Nat) (s : State), hears h s →
    (4 < n → exec (.release h n) s = .next (refusedWith h 0x31#8 .range s) ∧
      exec (.isolate h n) s = .next (refusedWith h 0x32#8 .range s)) ∧
    (n ≤ 4 →
      let concerned (k : Roller) : Bool := decide (n = 0 ∨ n = rollerNum k)
      let old (k : Roller) : CouplingState := (s.coupling.roller.get k).state
      let entered (r : CouplingRoller) (state : CouplingState) (release : ReleaseRecord) : CouplingRoller :=
        { r with state := state, count := 0, timer := 0, rampEnded := false, release := release }
      let begun (cause : Reason) : ReleaseRecord :=
        { first := cause, subsequent := none, notSettled := false, time := s.timer.time }
      let heard' (t : State) : Prop :=
        t = { heard s with coupling := t.coupling, mail := t.mail } ∧ onlyChangesSent s.mail t.mail ∧
          t.coupling = { s.coupling with roller := t.coupling.roller }
      let change (k : Roller) (new : CouplingState) (cause : Reason) : Change :=
        { previous := old k, new := new, reason := cause, time := s.timer.time }
      (∃ t, heard' t ∧
        exec (.release h n) s = .next
          (taken h 0xB1#8
            (if Roller.all.any fun k => concerned k && (attached (old k) || decide (old k = .pendingAttach))
             then 0 else 1) [] none t) ∧
        ∀ k,
          let r := s.coupling.roller.get k
          if concerned k = true ∧ old k = .pendingAttach then
            t.coupling.roller.get k = entered r .releasedUnack (begun .command) ∧
              told s t k [change k .releasedUnack .command]
          else if concerned k = true ∧ attached (old k) = true then
            t.coupling.roller.get k = entered r .releasing (begun .command) ∧
              told s t k [change k .releasing .command]
          else t.coupling.roller.get k = r ∧ told s t k []) ∧
      ∃ t, heard' t ∧
        exec (.isolate h n) s = .next
          (taken h 0xB2#8
            (if Roller.all.any fun k => concerned k && decide (old k ≠ .releasedUnack) then 0 else 1) [] none t) ∧
        ∀ k,
          let r := s.coupling.roller.get k
          let later : ReleaseRecord := { r.release with subsequent := some .isolated }
          if concerned k = false then t.coupling.roller.get k = r ∧ told s t k []
          else if old k = .releasedUnack then
            t.coupling.roller.get k = { r with release := later } ∧ told s t k []
          else
            t.coupling.roller.get k =
                entered r .releasedUnack (if old k = .releasing then later else begun .isolated) ∧
              told s t k [change k .releasedUnack .isolated])

/-- The timers at an interval of the coupling controller (R74, R77, R79, R83, R87, R93): what becomes of each roller by
its state, the permits found before the attach timer is tested; of the events that wait, it adds only coupling changes and
what the skew supervisor sends; and ATTACH TIMEOUT, LOCK TIMEOUT and NOT SETTLED, the intervals at which a timer ends,
which do nothing where it does not (assumption 5). -/
def Obligations.CouplingTimersRun : Prop :=
  ∀ s : State, ∃ t, exec .couplingInterval s = .next t ∧
    t = { s with coupling := t.coupling, mail := t.mail } ∧
    onlyChangesSent
      { s.mail with
        skewFault := t.mail.skewFault
        reports := { s.mail.reports with coupling := t.mail.reports.coupling } } t.mail ∧
    t.coupling.params = s.coupling.params ∧ t.coupling.runPermitView = s.coupling.runPermitView ∧
    ∀ k : Roller,
      let r := s.coupling.roller.get k
      let p := s.coupling.params
      let entered (state : CouplingState) (release : ReleaseRecord) : CouplingRoller :=
        { r with state := state, count := 0, timer := 0, rampEnded := false, release := release }
      let begun (cause : Reason) : ReleaseRecord :=
        { first := cause, subsequent := none, notSettled := false, time := s.timer.time }
      let attachEnds : Prop :=
        r.state = .pendingAttach ∧ ¬(s.coupling.runPermitView ∧ r.permitView) ∧ p.tAttach ≤ r.timer + 1
      let lossEnds : Prop := r.state = .lostLock ∧ p.tLoss ≤ r.timer + 1
      let releaseEnds : Prop := r.state = .releasing ∧ p.tRelease ≤ r.timer + 1
      let enters (state : CouplingState) (reason : Reason) (release : ReleaseRecord) : Prop :=
        t.coupling.roller.get k = entered state release ∧
          told s t k [{ previous := r.state, new := state, reason := reason, time := s.timer.time }]
      (if r.state = .pendingAttach ∧ s.coupling.runPermitView ∧ r.permitView then enters .matching .permits r.release
       else if attachEnds then enters .releasedUnack .attachTimeout (begun .attachTimeout)
       else if lossEnds then enters .releasing .lockTimeout (begun .lockTimeout)
       else if releaseEnds then enters .releasedUnack .notSettled { r.release with notSettled := true }
       else if r.state = .pendingAttach ∨ r.state = .lostLock ∨ r.state = .releasing then
        t.coupling.roller.get k = { r with timer := r.timer + 1 } ∧ told s t k []
       else t.coupling.roller.get k = r ∧ told s t k []) ∧
      exec (.attachTimeout k) s = .next (if attachEnds then t else s) ∧
      exec (.lockTimeout k) s = .next (if lossEnds then t else s) ∧
      exec (.notSettled k) s = .next (if releaseEnds then t else s)

/-- The shaft skew supervisor at an interval (R96, R97): over the rollers LOCKED or LOST_LOCK, `hi` of largest and `lo`
of smallest position error, the lower-numbered where two are equal; and SKEW FAULT, the interval at which the count
reaches the flywheel with the mark clear. That the test sees the states as the interval finds them, before the timers,
is the model's reading (assumption 26). -/
def Obligations.SkewIsSupervised : Prop :=
  ∀ s : State, ∃ t, exec .couplingInterval s = .next t ∧
    let c := s.coupling
    let seen (k : Roller) : Prop := (c.roller.get k).state = .locked ∨ (c.roller.get k).state = .lostLock
    let ex (k : Roller) : Int := (c.roller.get k).meas.ex
    ((∀ j k, seen j → seen k → j = k) →
      t.coupling.skewCount = 0 ∧ t.coupling.skewRaised = false ∧ t.mail.skewFault = s.mail.skewFault ∧
        t.mail.reports = s.mail.reports ∧ exec .skewFault s = .next s) ∧
    ∀ hi lo : Roller, seen hi → seen lo → (∃ k, seen k ∧ k ≠ hi) →
      (∀ k, seen k → ex k ≤ ex hi ∧ ex lo ≤ ex k ∧ (ex k = ex hi → rollerNum hi ≤ rollerNum k) ∧
        (ex k = ex lo → rollerNum lo ≤ rollerNum k)) →
      let skew := ex hi - ex lo
      let n := if c.skewCount < 65535 then c.skewCount + 1 else c.skewCount
      let fires : Prop := (c.params.skewLimit : Int) < skew ∧ c.params.skewFlywheel ≤ n ∧ c.skewRaised = false
      t.coupling.skewCount = (if (c.params.skewLimit : Int) < skew then n else 0) ∧
      (t.coupling.skewRaised = true ↔ fires ∨ ((c.params.skewLimit : Int) < skew ∧ c.skewRaised = true)) ∧
      t.mail.skewFault = (if fires then s.mail.skewFault + 1 else s.mail.skewFault) ∧
      t.mail.reports =
        { s.mail.reports with
          coupling := s.mail.reports.coupling ++
            if fires then [⟨some s.timer.time, .skew skew hi lo (ex hi) (ex lo)⟩] else [] } ∧
      exec .skewFault s = .next (if fires then t else s)

/-- The next message of a channel, a measurement record (R74, R81 to R83, R86): it is kept, the count of the roller's
state goes on or starts anew, and at its threshold the roller goes to the next state. MATCHED, LOCK LOSS, RELOCKED and
SETTLED are the arrivals at which a count is reached; where it is not they do nothing (assumption 5). -/
def Obligations.MeasurementsAreCounted : Prop :=
  ∀ (k : Roller) (m : MeasRecord) (rest : List ChannelMessage) (s : State),
    s.mail.fromChannel.get k = .measurement m :: rest →
    let r := s.coupling.roller.get k
    let p := s.coupling.params
    let s' : State := { s with mail := { s.mail with fromChannel := s.mail.fromChannel.set k rest } }
    let with' (x : CouplingRoller) (u : State) : State :=
      { u with coupling := { s.coupling with roller := s.coupling.roller.set k { x with meas := m } } }
    let goes (new : CouplingState) (reason : Reason) : State :=
      sendChange k { previous := r.state, new := new, reason := reason, time := s.timer.time }
        (with' { r with state := new, count := 0, timer := 0, rampEnded := false } s')
    let tested (met : Bool) (threshold : Nat) (i : Instr) (after : State) : Prop :=
      let n := if met then r.count + 1 else 0
      exec (.measurementArrival k) s = .next (if threshold ≤ n then after else with' { r with count := n } s') ∧
        exec i s = .next (if threshold ≤ n then after else s)
    (r.state ≠ .matching → exec (.matched k) s = .next s) ∧ (r.state ≠ .locked → exec (.lockLoss k) s = .next s) ∧
    (r.state ≠ .lostLock → exec (.relocked k) s = .next s) ∧
    (r.state ≠ .releasing ∨ r.rampEnded = false → exec (.settled k) s = .next s) ∧
    match r.state with
    | .matching => tested (decide (mag m.ev ≤ p.vWin)) p.nMatch (.matched k) (goes .locked .matched)
    | .locked =>
      tested (decide ((p.xWin : Int) < mag m.ex)) p.nLoss (.lockLoss k)
        (countLockLoss k (goes .lostLock .lockLoss))
    | .lostLock => tested (decide (mag m.ex ≤ p.xWin)) p.nRelock (.relocked k) (goes .locked .relocked)
    | .releasing =>
      if r.rampEnded then
        tested (decide (mag m.vMeas ≤ p.vStill)) p.nSettle (.settled k) (goes .releasedUnack .settled)
      else exec (.measurementArrival k) s = .next (with' r s')
    | .detached | .pendingAttach | .releasedUnack => exec (.measurementArrival k) s = .next (with' r s')

/-- The next event from a channel or the line unit (R74, R86, R88, R89, R91, R94): a ramp end, a fault, a roller permit
and a run permit. `gone` is the roller released at once with a cause; the five receivers are told of its change, and no
other event is sent. -/
def Obligations.CouplingTakesEvents : Prop :=
  ∀ s : State,
    let gone (cause : Reason) (r : CouplingRoller) : CouplingRoller :=
      { r with
        state := .releasedUnack, count := 0, timer := 0, rampEnded := false
        release :=
          if r.state = .releasing then { r.release with subsequent := some cause }
          else { first := cause, subsequent := none, notSettled := false, time := s.timer.time } }
    let released (k : Roller) (cause : Reason) (r : CouplingRoller) (u : State) : State :=
      sendChange k { previous := r.state, new := .releasedUnack, reason := cause, time := s.timer.time }
        { u with coupling := { s.coupling with roller := s.coupling.roller.set k (gone cause r) } }
    (∀ k rest, s.mail.fromChannel.get k = .rampEnd :: rest →
      let r := s.coupling.roller.get k
      let s' : State := { s with mail := { s.mail with fromChannel := s.mail.fromChannel.set k rest } }
      exec (.rampEnd k) s = .next
        (if r.state = .releasing then
          { s' with
            coupling :=
              { s.coupling with roller := s.coupling.roller.set k { r with rampEnded := true, count := 0 } } }
         else s')) ∧
    (∀ k kind rest, s.mail.fault.get k = kind :: rest →
      let r := s.coupling.roller.get k
      let s' : State := { s with mail := { s.mail with fault := s.mail.fault.set k rest } }
      exec (.faultHandoff k) s = .next
        (if r.state = .detached ∨ r.state = .releasedUnack then s' else released k (faultReason kind) r s')) ∧
    (∀ k e rest, s.mail.rollerPermit.get k = e :: rest →
      let r := { s.coupling.roller.get k with permitView := e.present }
      let s' : State := { s with mail := { s.mail with rollerPermit := s.mail.rollerPermit.set k rest } }
      exec (.rollerPermitChange k) s = .next
        (if e.present = false ∧ (attached r.state = true ∨ r.state = .releasing) then released k .rollerPermit r s'
         else { s' with coupling := { s.coupling with roller := s.coupling.roller.set k r } })) ∧
    ∀ e rest, s.mail.permitToCoupling = e :: rest →
      ∃ t, exec .couplingRunPermitChange s = .next t ∧
        t = { s with coupling := t.coupling, mail := t.mail } ∧
        onlyChangesSent { s.mail with permitToCoupling := rest } t.mail ∧
        t.coupling = { s.coupling with runPermitView := e.present, roller := t.coupling.roller } ∧
        ∀ k,
          let r := s.coupling.roller.get k
          if e.estopMark = false then t.coupling.roller.get k = r ∧ told s t k []
          else if r.state = .releasedUnack then
            t.coupling.roller.get k = { r with release := { r.release with subsequent := some .estop } } ∧ told s t k []
          else
            t.coupling.roller.get k = gone .estop r ∧
              told s t k [{ previous := r.state, new := .releasedUnack, reason := .estop, time := s.timer.time }]

/-- A coupling state changes only as 4.6.3 gathers it, by one transition at a time but for a reset, and a roller leaves
RELEASED_UNACK only by ACKNOWLEDGE RELEASE of that roller (the law of R92), whether as a row or as the last byte of a
good frame that carries it to the node or group address. -/
def Obligations.CouplingMovesByTheTable : Prop :=
  ∀ (i : Instr) (s t : State) (k : Roller), exec i s = .next t →
    let old := (s.coupling.roller.get k).state
    let new := (t.coupling.roller.get k).state
    (couplingMoves old new = true ∨ new = .releasedUnack) ∧
    (old = .releasedUnack → new ≠ .releasedUnack →
      let f := s.link.frame
      let accepted (addr : Byte) : Prop :=
        addr.toNat = s.link.settings.node ∨ (s.link.settings.group ≠ 0 ∧ addr.toNat = s.link.settings.group)
      new = .detached ∧
        ((∃ h, i = .acknowledgeRelease h (rollerNum k) ∧ accepted h.addr) ∨
          ∃ b gap a, i = .receiveByte b gap true a ∧ gap ≤ gapLimitUs ∧ s.link.rx = .crcLow ∧ accepted f.addr ∧
            f.kind = 0x33#8 ∧ f.payload = [byte (rollerNum k)] ∧ f.crcHigh = (f.crc >>> 8).setWidth 8 ∧
            b = f.crc.setWidth 8))

/-- Every receiver of coupling changes follows the coupling state of every roller: taking the changes that wait for
it, it comes to hold the state the coupling controller holds (R73); and the contributing roller count is the number of
attached rollers as far as the shaft model has been told (R3). That changes wait for each receiver in order is the
model's reading, assumption 11. -/
def Obligations.ViewsFollowTheRollers : Prop :=
  ∀ (i : Instr) (s t : State), (∀ k, viewsFollow s k = true) → contributingLawful s = true → exec i s = .next t →
    (∀ k, viewsFollow t k = true) ∧ contributingLawful t = true

/-- The law of R91: while ESTOP_CHAIN is 0 every roller is DETACHED or RELEASED_UNACK, once the coupling controller has
taken the emergency stop that reported it. -/
def Obligations.EmergencyStopReleasesAll : Prop :=
  ∀ (i : Instr) (s t : State), estopLawful s = true → exec i s = .next t → estopLawful t = true

/-! ## Profile queue (chapter 5) -/

/-- LOAD POINTS, CLEAR PROFILE and SET PROFILE (R99 to R103, R117, R118), with the checks in their order. The points of a
load are those its bytes spell as 11.4 lays them out, and a load whose bytes spell no `n` points is refused LENGTH. A
load taken in ARMED that meets the start test starts the run within the command (R106). -/
def Obligations.PointsAreLoadedAndCleared : Prop :=
  ∀ (h : Head) (s : State), hears h s →
    let q := s.profile
    let full : Nat := 64 - q.points.length
    let l := s.shaft.settings.limits
    let kept (p : Point) : Point :=
      { p with speed := clampTo (-(l.vRev : Int)) l.vMax p.speed, grade := clampTo (-3000) 3000 p.grade }
    (∀ n bytes ps, parsePoints n bytes = some ps ↔ ps.length = n ∧ pointsLaid ps bytes) ∧
    (∀ n bytes, (bytes.length < 8 ∨ 144 < bytes.length) →
      exec (.loadPoints h n bytes) s = .next (refusedWith h 0x40#8 .length s)) ∧
    (∀ n bytes, 8 ≤ bytes.length → bytes.length ≤ 144 →
      (n = 0 ∨ 16 < n → exec (.loadPoints h n bytes) s = .next (refusedWith h 0x40#8 .range s)) ∧
      (1 ≤ n → n ≤ 16 → parsePoints n bytes = none →
        exec (.loadPoints h n bytes) s = .next (refusedWith h 0x40#8 .length s)) ∧
      ∀ ps, 1 ≤ n → n ≤ 16 → parsePoints n bytes = some ps →
        exec (.loadPoints h n bytes) s = .next
          (let stored := ps.map kept
           let ends := (ps.getLast?.map (·.isEnd)) = some true
           let loaded : State :=
            { heard s with profile := { q with points := q.points ++ stored, closed := decide ends } }
           let after : State :=
            if q.run = .armed ∧ (q.condition = .immediate ∨ q.markKept) ∧
                (q.threshold ≤ q.points.length + ps.length ∨ ends) then
              startRun true s.timer.time loaded
            else loaded
           if (∃ p ∈ ps, p.duration = 0) ∨ ∃ p ∈ ps.dropLast, p.isEnd then refusedWith h 0x40#8 .range s
           else if q.run = .finished ∨ q.run = .starved ∨ q.run = .abandoned then refusedWith h 0x40#8 .state s
           else if q.closed then refusedWith h 0x40#8 .closed s
           else if full < n then refusedWith h 0x40#8 .full s
           else taken h 0xC0#8 (if stored = ps then 0 else 1) [byte (64 - (q.points ++ stored).length)] none after)) ∧
    (exec (.clearProfile h) s = .next
      (let cleared : Profile :=
        { q with
          points := [], closed := false, markKept := false, elapsed := 0, run := .idle
          record :=
            { run := .idle, target := q.target, grade := q.grade, elapsed := 0, duration := 0
              consumed := q.consumed } }
       let after : State := { heard s with profile := cleared }
       if q.run = .armed ∨ q.run = .running then refusedWith h 0x43#8 .state s
       else
        taken h 0xC3#8 0 [] none
          (if full < 32 then reportStamped .profile (.profile (.space 64) .idle) after else after))) ∧
    ∀ n, exec (.setProfile h n) s = .next
      (if n < 1 ∨ 64 < n then refusedWith h 0x44#8 .range s
       else if q.run = .armed ∨ q.run = .running then refusedWith h 0x44#8 .state s
       else taken h 0xC4#8 0 [] none { heard s with profile := { q with threshold := n } })

/-- How a run starts and is abandoned (R105 to R107, R115, R116, R120): START PROFILE, the time mark, ABANDON PROFILE
and the shaft model's abandonment; and what a start does. A start at a time mark is stamped with the mark's time (R148;
against R120's last published, assumption 36), and an abandonment sets the elapsed count to 0 in the queue and in the
run record (assumption 27). -/
def Obligations.RunStartsAndIsAbandoned : Prop :=
  ∀ (h : Head) (s : State),
    let q := s.profile
    let enough : Prop := q.threshold ≤ q.points.length ∨ q.closed = true
    let front : Nat := match q.points with
      | [] => 0
      | x :: _ => x.duration
    let ended (cause : AbandonCause) (u : State) : State :=
      reportStamped .profile
        (.profile (.abandoned cause (rdiv q.target 65536) q.consumed q.points.length) .abandoned)
        { u with
          profile :=
            { q with
              run := .abandoned, elapsed := 0
              record :=
                { run := .abandoned, target := q.target, grade := q.grade, elapsed := 0, duration := front
                  consumed := q.consumed } } }
    (∀ byLoad time,
      let v := s.shaft.record.speed
      let grade : Int := match q.points with
        | [] => q.grade
        | x :: _ => x.grade
      startRun byLoad time s =
        sendReport .profile
          ⟨some time, .profile
            (if byLoad = true ∧ q.markKept = true then .lateStart q.condition (rdiv v 65536) q.points.length
             else .started q.condition (rdiv v 65536) q.points.length) .running⟩
          { s with
            profile :=
              { q with
                run := .running, vs := v, elapsed := 0, target := v, grade := grade, consumed := 0
                record :=
                  { run := .running, target := v, grade := grade, elapsed := 0, duration := front
                    consumed := 0 } } }) ∧
    (hears h s →
      (∀ n, 1 < n → exec (.startProfile h n) s = .next (refusedWith h 0x41#8 .range s)) ∧
      (∀ c : StartCond,
        let armed : State :=
          { heard s with
            profile :=
              { q with
                run := .armed, condition := c, markKept := false
                record :=
                  { run := .armed, target := q.target, grade := q.grade, elapsed := q.elapsed, duration := front
                    consumed := q.consumed } } }
        exec (.startProfile h (conditionCode c)) s = .next
          (if q.run ≠ .idle ∨ (s.shaft.mode ≠ .roadLoad ∧ s.shaft.mode ≠ .speedProfile) then
            refusedWith h 0x41#8 .state s
           else if c = .immediate ∧ enough then taken h 0xC1#8 0 [] none (startRun false s.timer.time armed)
           else taken h 0xC1#8 1 [] none armed)) ∧
      exec (.abandonProfile h) s = .next
        (if q.run = .armed ∨ q.run = .running then
          taken h 0xC2#8 0 [] none (sendToShaft .abandonment (ended .command (heard s)))
         else refusedWith h 0x42#8 .state s)) ∧
    (∀ time rest, s.mail.timeMark = time :: rest →
      let s' : State := { s with mail := { s.mail with timeMark := rest } }
      exec .profileTimeMark s = .next
        (if q.run = .armed ∧ q.condition = .atMark then
          if enough then startRun false time s' else { s' with profile := { q with markKept := true } }
         else s')) ∧
    ∀ cause rest, s.mail.abandonment = cause :: rest →
      let s' : State := { s with mail := { s.mail with abandonment := rest } }
      exec .profileAbandonment s = .next
        (if q.run = .armed ∨ q.run = .running then ended cause s' else s')

/-- The interval of the profile queue (R103, R108 to R113, R120): the pulse runs down first; a RUNNING run advances its
front segment, and the point reached is consumed, which goes on with the next segment, finishes or starves the run.
POINT REACHED and MARK_OUT PULSE END are the intervals at which those happen (assumption 5). That a run that finishes or
starves keeps its elapsed count (assumption 27), and that a pulse ending at the interval of a cue gives a change to 0
and one to 1 (assumption 28), are the model's reading. -/
def Obligations.ProfileAdvancesItsSegment : Prop :=
  ∀ s : State, ∃ t, exec .profileInterval s = .next t ∧
    let q := s.profile
    let p := t.profile
    let pulse := q.pulse - 1
    let fell : List Bool := if q.pulse = 1 then [false] else []
    t = { s with
      profile := p
      mail := { s.mail with reports := t.mail.reports, toShaft := t.mail.toShaft, markOut := t.mail.markOut }
      store := { s.store with counters := t.store.counters } } ∧
    exec .markOutPulseEnd s = .next (if q.pulse = 1 then t else s) ∧
    (q.run ≠ .running →
      p = { q with pulse := pulse } ∧ t.mail = { s.mail with markOut := s.mail.markOut ++ fell } ∧
        t.store.counters = s.store.counters ∧ exec .pointReached s = .next s) ∧
    ∀ x rest, q.run = .running → q.points = x :: rest →
      let e := q.elapsed + 1
      let v := q.vs + rdiv ((x.speed * 65536 - q.vs) * (e : Int)) x.duration
      let note (event : ProfileEvent) (run : RunState) : Report := ⟨some s.timer.time, .profile event run⟩
      let published : Prop :=
        p.record =
          { run := p.run, target := p.target, grade := p.grade, elapsed := p.elapsed
            duration := (p.points.head?.map (·.duration)).getD 0, consumed := p.consumed }
      published ∧ p.target = v ∧ p.grade = x.grade ∧ p.condition = q.condition ∧ p.markKept = q.markKept ∧
      p.threshold = q.threshold ∧
      (e < x.duration →
        p.points = q.points ∧ p.closed = q.closed ∧ p.run = .running ∧ p.vs = q.vs ∧ p.elapsed = e ∧
        p.consumed = q.consumed ∧ p.pulse = pulse ∧
        t.mail = { s.mail with markOut := s.mail.markOut ++ fell } ∧ t.store.counters = s.store.counters ∧
        exec .pointReached s = .next s) ∧
      (x.duration ≤ e →
        let consumed := if q.consumed < 65535 then q.consumed + 1 else q.consumed
        let space := if 64 - q.points.length < 32 ∧ 32 ≤ 64 - rest.length then
          [note (.space (64 - rest.length)) .running] else []
        let cue := match x.cue with
          | none => []
          | some n => [note (.cue n consumed) .running]
        let raised : List Bool := if x.cue.isSome ∧ pulse = 0 then [true] else []
        let ending (report : List Report) (handed : List ProfileHandoff) : Prop :=
          t.mail.reports = setReports s.mail.reports .profile (s.mail.reports.profile ++ space ++ cue ++ report) ∧
            t.mail.toShaft = s.mail.toShaft ++ handed
        exec .pointReached s = .next t ∧ p.points = rest ∧ p.consumed = consumed ∧
        p.pulse = (if x.cue.isSome then 10 else pulse) ∧ t.mail.markOut = s.mail.markOut ++ fell ++ raised ∧
        (x.isEnd = true →
          p.run = .finished ∧ p.closed = false ∧ p.vs = q.vs ∧ p.elapsed = e ∧
          ending [note (.finished x.speed consumed) .finished] [.finish x.speed] ∧
          t.store.counters = s.store.counters) ∧
        (x.isEnd = false → rest = [] →
          p.run = .starved ∧ p.closed = q.closed ∧ p.vs = q.vs ∧ p.elapsed = e ∧
          ending [note (.starved x.speed consumed) .starved] [.starvation] ∧
          t.store.counters =
            { s.store.counters with profileUnderruns := bump s.store.counters.profileUnderruns }) ∧
        (x.isEnd = false → rest ≠ [] →
          p.run = .running ∧ p.closed = q.closed ∧ p.vs = x.speed * 65536 ∧ p.elapsed = 0 ∧ ending [] [] ∧
          t.store.counters = s.store.counters))

/-- The laws of the profile queue hold after every command and event: at most 64 points, an END point only as the last,
the closed flag with it (R102); a RUNNING run inside a segment, the run record published with every change of run state
(R104, R108); and the run state changes only as R104 gathers it. -/
def Obligations.ProfileLawsHold : Prop :=
  ∀ (i : Instr) (s t : State),
    let lawful (u : State) : Prop :=
      profileLawful u.profile = true ∧ runLawful u.profile = true ∧ thresholdOk u.profile.threshold = true ∧
        ∀ n, u.mail.handover.profile = some n → thresholdOk n = true
    exec i s = .next t →
    (lawful s → lawful t) ∧ runMoves s.profile.run t.profile.run = true

/-! ## Line unit (chapter 6) -/

/-- A group sample (R122 to R131): each line of the group is qualified by its own count, the group's sample timer starts
with its period, the logical inputs some line of the group holds the code of are formed anew, and the permit events,
edges and reports follow (`inputsFormed`); nothing else changes. What a logical input is formed from (R126): the
qualified value of its one line, else its default 0. LINE QUALIFIED is the sample at which the qualified value of a line
changes (assumption 5). That no candidate is held at agreement and at qualification is the model's reading
(assumption 29), and that a sample timer is held as its period, assumption 32. -/
def Obligations.GroupSampleIsTaken : Prop :=
  (∀ (u : LineUnit) (i : LogIn),
    (∀ l v, routedLines u i = [l] → (u.qualifiers.line l).value = some v →
      inputSource u i = some (l, v) ∧ formedInput u i = v) ∧
    ((∀ l, routedLines u i = [l] → (u.qualifiers.line l).value = none) →
      inputSource u i = none ∧ formedInput u i = false) ∧
    ∀ l, l ∈ routedLines u i ↔ u.settings.functions.line l = .input i) ∧
  ∀ (g : Group) (levels : Eight Bool) (s : State), ∃ t, exec (.groupSample g levels) s = .next t ∧
    let u := s.line
    let period := u.settings.periods.get g
    let sampled : LineUnit :=
      { u with
        timers := u.timers.set g (if period = 0 then 10 else 20 * period)
        qualifiers := u.qualifiers.set g (Eight.tabulate fun p =>
          let n := (u.settings.counts.get g).get p
          let q := (u.qualifiers.get g).get p
          let level := levels.get p
          let run := if q.value = none ∧ (q.run = 0 ∨ q.candidate ≠ some level) then 1 else q.run + 1
          if q.value = some level then ⟨some level, none, 0⟩
          else if n ≤ run then ⟨some level, none, 0⟩
          else ⟨q.value, some level, run⟩) }
    inputsFormed (fun i => (u.settings.functions.get g).toList.contains (.input i)) false sampled s t ∧
    ∀ p : Slot, exec (.lineQualified ⟨g, p⟩ levels) s = .next
      (if ((t.line.qualifiers.get g).get p).value = ((u.qualifiers.get g).get p).value then s else t)

/-- Every logical input holds the value its routed lines give it, the permits are those of the inputs, and the brake
holds, the lift inhibit and the run lamp follow the line unit's views (the laws of R126 and R132, R128, R130, R133). -/
def Obligations.LineLawsHold : Prop :=
  ∀ (i : Instr) (s t : State), exec i s = .next t →
    (inputsLawful s.line = true → inputsLawful t.line = true) ∧
    (outputsLawful s.line = true → outputsLawful t.line = true)

/-- ROUTE LINE, SET QUALIFIER and DRIVE LINES (R136 to R139), and the line unit's coupling changes, run lamp and
MARK_OUT (R132 to R134). A ROUTE LINE that changes the code is the routing change of R137 (`routed`): the inputs
concerned formed anew, with the run permit event and its emergency stop mark, the roller permit events and the line
change reports of cause ROUTING. That a sample timer is held as the period it was last started with is the model's
reading (assumption 32). -/
def Obligations.LinesAreRoutedAndDriven : Prop :=
  ∀ (h : Head) (s : State),
    let u := s.line
    (hears h s →
      (∀ n code, (n = 0 ∨ 24 < n ∨ 25 < code) →
        exec (.routeLine h n code) s = .next (refusedWith h 0x50#8 .range s)) ∧
      (∀ (l : LineId) (f : Function),
        let i := Instr.routeLine h (lineNum l) (functionCode f)
        let value (w : LineUnit) : Byte := match f with
          | .input x => flag (getInput w.inputs x)
          | _ => 0#8
        (cellIdle s = false → exec i s = .next (refusedWith h 0x50#8 .busy s)) ∧
        (cellIdle s = true → u.settings.functions.line l = f → exec i s = .next
          (taken h 0xD0#8 1 [byte (functionCode f), value u] none (heard s))) ∧
        (cellIdle s = true → u.settings.functions.line l ≠ f → ∃ t,
          exec i s = .next (taken h 0xD0#8 0 [byte (functionCode f), value t.line] none t) ∧
          routed l f (heard s) t)) ∧
      (∀ n period (counts : Eight Nat), exec (.setQualifier h n period counts) s = .next
        (let ok (c : Nat) : Bool := decide (c = 1 ∨ c = 3 ∨ c = 6)
         match groupOfNum n with
         | none => refusedWith h 0x51#8 .range s
         | some g =>
          if 255 < period ∨ counts.toList.all ok = false then refusedWith h 0x51#8 .range s
          else if cellIdle s = false then refusedWith h 0x51#8 .busy s
          else
            taken h 0xD1#8
              (if u.settings.periods.get g = period ∧ u.settings.counts.get g = counts then 1 else 0) [] none
              { heard s with
                line :=
                  { u with
                    settings :=
                      { u.settings with
                        periods := u.settings.periods.set g period, counts := u.settings.counts.set g counts }
                    timers :=
                      if u.settings.periods.get g = period then u.timers
                      else u.timers.set g (if period = 0 then 10 else 20 * period) } })) ∧
      ∀ set clear toggle : BitVec 24, ∃ latches : Lines Bool,
        exec (.driveLines h set clear toggle) s = .next
          (taken h 0xD2#8
            (if LineId.all.any fun l =>
                (set ||| clear ||| toggle).getLsbD (lineNum l - 1) &&
                  decide (u.settings.functions.line l ≠ .generalOut)
             then 1 else 0)
            (be 3 (marks latches.inOrder)) none { heard s with line := { u with latches := latches } }) ∧
        ∀ l,
          let b := lineNum l - 1
          latches.line l =
            (((u.latches.line l || set.getLsbD b) && !clear.getLsbD b) ^^ toggle.getLsbD b)) ∧
    (∀ k e rest, s.mail.changeToLine.get k = e :: rest →
      let view := u.view.set k e.new
      exec (.lineCouplingChange k) s = .next
        { s with
          mail := { s.mail with changeToLine := s.mail.changeToLine.set k rest }
          line :=
            { u with
              view := view, brakeHold := u.brakeHold.set k (e.new = .detached || e.new = .releasedUnack)
              liftInhibit := view.toList.any fun c => c ≠ .detached && c ≠ .releasedUnack } }) ∧
    (∀ m rest, s.mail.modeToLine = m :: rest → exec .runLampRecord s = .next
      { s with
        mail := { s.mail with modeToLine := rest }
        line := { u with modeView := m, runLamp := decide (m ≠ .idle) } }) ∧
    ∀ v rest, s.mail.markOut = v :: rest → exec .markOutReport s = .next
      { s with mail := { s.mail with markOut := rest }, line := { u with markOut := v } }

/-! ## Cell timer (chapter 7) -/

/-- The cell timer (R143 to R149): SET TIME, SET COMPARE, the interval with its compare test, and the mark edge. A mark
is handed to the profile queue with its cell time, and to the notice queue. -/
def Obligations.CellTimerKeepsTime : Prop :=
  ∀ (h : Head) (s : State),
    let c := s.timer
    let marked (time : BitVec 32) (u : State) : State :=
      reportStamped .timer (.timeMark c.source (c.markCount + 1))
        (sendTimeMark time
          { u with timer := { c with time := time, markCount := c.markCount + 1, lastMark := some time } })
    (hears h s →
      (∀ n, exec (.setTime h n) s = .next
        (if n < 4294967296 then
          taken h 0xE0#8 0 (be 4 c.time.toNat ++ be 4 n) none
            { heard s with timer := { c with time := BitVec.ofNat 32 n } }
         else refusedWith h 0x60#8 .range s)) ∧
      ∀ n source, exec (.setCompare h n source) s = .next
        (if 1 < source ∨ 4294967296 ≤ n then refusedWith h 0x61#8 .range s
         else
          taken h 0xE1#8 (if source = 0 ∧ n ≠ 0 ∧ n = c.time.toNat then 1 else 0)
            (be 4 c.time.toNat ++ be 4 n ++ [byte source]) none
            { heard s with
              timer :=
                { c with compare := BitVec.ofNat 32 n, source := if source = 0 then .compare else .extMark } })) ∧
    exec .cellTimerInterval s = .next
      (if c.source = .compare ∧ c.compare ≠ 0#32 ∧ c.compare = c.time + 1 then marked (c.time + 1) s
       else { s with timer := { c with time := c.time + 1 } }) ∧
    ∀ n, s.mail.markEdge = n + 1 →
      let s' : State := { s with mail := { s.mail with markEdge := n } }
      exec .markEdge s = .next (if c.source = .extMark then marked c.time s' else s')

/-! ## Notice queue (chapter 9) -/

/-- How the queue takes a report, a coupling change and a reference record (R73, R166 to R168, R170): an admitted
notice takes the next sequence number; with 16 held an event displaces the newest sample and anything else is lost,
and a loss is counted and marked. SHAFT SAMPLE is the record at which the sample count reaches the period (assumption
5). A RELOAD DONE report waits until the notice settings have been handed over: the model's reading, assumption 13.
The bytes of a notice are those of `Obligations.NoticesAreLaidOut`. -/
def Obligations.NoticesAreAdmittedAndStored : Prop :=
  ∀ s : State,
    let q := s.notice
    let stored (time : BitVec 32) (b : NoticeBody) (u : State) : State :=
      let n : Notice := ⟨q.nextSeq, time, b⟩
      let held (events samples : List Notice) (overflow : Bool) : State :=
        { u with
          notice :=
            { u.notice with
              events := events, samples := samples, overflow := overflow, nextSeq := q.nextSeq + 1 } }
      let room : Bool := decide (q.events.length + q.samples.length < 16)
      if isSample b then
        if room then held q.events (q.samples ++ [n]) q.overflow
        else countNoticeLost (held q.events q.samples true)
      else if room then held (q.events ++ [n]) q.samples q.overflow
      else if q.samples = [] then countNoticeLost (held q.events q.samples true)
      else countNoticeLost (held (q.events ++ [n]) q.samples.dropLast true)
    (∀ x r rest, reportsOf s.mail.reports x = r :: rest →
      let s' : State := { s with mail := { s.mail with reports := setReports s.mail.reports x rest } }
      let enabled : Bool := match r.body with
        | .shaftSample .. => true
        | .lineChange i .. => q.settings.enable.getLsbD 4 && q.settings.selection.getLsbD (inputIndex i)
        | b => q.settings.enable.getLsbD (noticeKind b - 1)
      ((∀ image, r.body ≠ .reloadDone image) ∨ s.mail.handover.notice = none →
        exec (.noticeReport x) s = .next
          (if enabled then stored (r.stamp.getD s.timer.time) r.body s' else s')) ∧
      ((∃ image, r.body = .reloadDone image) → s.mail.handover.notice ≠ none →
        exec (.noticeReport x) s = .next s)) ∧
    (∀ k e rest, s.mail.changeToNotice.get k = e :: rest →
      let s' : State :=
        { s with
          mail := { s.mail with changeToNotice := s.mail.changeToNotice.set k rest }
          notice := { q with view := q.view.set k e.new } }
      exec (.noticeCouplingChange k) s = .next
        (if q.settings.enable.getLsbD 0 then
          stored e.time (.couplingChange k e.previous e.new e.reason) s'
         else s')) ∧
    ∀ r rest, s.mail.recordToNotice = r :: rest →
      let s' (count : Nat) : State :=
        { s with mail := { s.mail with recordToNotice := rest }, notice := { q with sampleCount := count } }
      let sample (k : Roller) : RollerSample :=
        let c := s.channel.get k
        { state := q.view.get k, vMeas := c.meas.vMeas, ex := c.meas.ex, demand := c.meas.demand
          force := c.forceRecord.force, refSeq := c.forceRecord.refSeq }
      let due : Prop := q.settings.period ≠ 0 ∧ q.settings.period ≤ q.sampleCount + 1
      let formed := stored s.timer.time
        (.shaftSample r ⟨sample .fl, sample .fr, sample .rl, sample .rr⟩) (s' 0)
      exec .referenceRecordTaken s = .next
        (if q.settings.period = 0 then s' 0 else if due then formed else s' (q.sampleCount + 1)) ∧
      exec .shaftSample s = .next (if due then formed else s)

/-- FETCH NOTICES and SET NOTICES (R169, R171, R172): a fetch takes from the front of the delivery order, events first,
at most 4 notices, within a payload of 240 bytes and no fewer than fit, and clears the overflow flag when it leaves
the queue empty. -/
def Obligations.NoticesAreFetched : Prop :=
  ∀ (h : Head) (s : State), hears h s →
    let q := s.notice
    (∃ (out left : List Notice) (t : State),
      q.events ++ q.samples = out ++ left ∧
      out.length ≤ 4 ∧ (out.flatMap noticeBytes).length ≤ 236 ∧
      (∀ n rest, left = n :: rest → out.length < 4 → 236 < ((out ++ [n]).flatMap noticeBytes).length) ∧
      t.notice.events ++ t.notice.samples = left ∧ (∃ a, q.events = a ++ t.notice.events) ∧
      (∃ a, q.samples = a ++ t.notice.samples) ∧
      t = { heard s with
        notice :=
          { q with
            events := t.notice.events, samples := t.notice.samples
            overflow := if left = [] then false else q.overflow } } ∧
      exec (.fetchNotices h) s = .next
        (taken h 0xE8#8 (if left = [] then 0 else 1)
          ([byte left.length, flag q.overflow, byte out.length] ++ out.flatMap noticeBytes) none t)) ∧
    ∀ (enable : BitVec 16) (period : Nat) (selection : BitVec 24),
      exec (.setNotices h enable period selection) s = .next
        (let n : NoticeSettings := ⟨enable.setWidth 9, period, selection.setWidth 17⟩
         if period ≠ 0 ∧ (period < 10 ∨ 1000 < period) then refusedWith h 0x69#8 .range s
         else
          taken h 0xE9#8 (if n = q.settings then 1 else 0) (noticeSettingsBytes n) none
            { heard s with
              notice :=
                { q with
                  settings := n, sampleCount := if period = q.settings.period then q.sampleCount else 0 } })

/-- After every command and event the notice queue holds at most 16 notices, its events and samples apart (R170), no
counter stands above 4 294 967 295 (R183), and the settings memory keeps the canonical form (the model's own,
assumption 4). -/
def Obligations.QueueCountersAndMemoryLaws : Prop :=
  ∀ (i : Instr) (s t : State), exec i s = .next t →
    (noticesLawful s.notice = true → noticesLawful t.notice = true) ∧
    (countersLawful s.store.counters = true → countersLawful t.store.counters = true) ∧
    (Memory.wf s.store.memory = true → Memory.wf t.store.memory = true)

/-! ## Settings store (chapter 10) -/

/-- STORE SETTINGS and its stages (R177, R178): the snapshot and the invalid mark, the sections, the header, the check;
and every failed end. `landed` is how many bytes of the stage the memory took, `remark` whether it takes the mark
once more: operands by the model's choice, assumption 12. The order of the bytes inside a stage, which
shows where a stage fails partway, is assumptions 9 and 40; that all 8 bytes of SEAL are a sealed image before the stage
is done, assumption 41. -/
def Obligations.StoreRunsItsStages : Prop :=
  ∀ (h : Head) (s : State),
    let st := s.store
    let mark (m : List Host.Cell) : List Host.Cell := Memory.write (Memory.write m 0 0#8) 1 0#8
    let with' (x : Store) : State := { s with store := x }
    let reported (ok : Bool) (stage : StoreStage) (u : State) : State :=
      reportPlain .store (.storeDone ok stage) u
    let failed (m : List Host.Cell) (remark : Bool) : State :=
      reported false st.stage
        (with'
          { st with
            activity := .idle, snapshot := none, lastOutcome := .failed st.stage
            memory := if remark then mark m else m })
    (hears h s → ∀ accepts, exec (.storeSettings h accepts) s = .next
      (let c := (heard s).store
       if st.activity = .storing then refusedWith h 0x70#8 .busy s
       else if accepts then
        taken h 0xF0#8 0 [] none
          { heard s with
            store :=
              { c with
                activity := .storing, stage := .write, snapshot := some (liveSettings s), memory := mark c.memory } }
       else
        taken h 0xF0#8 0 [] none
          (reported false .mark
            { heard s with
              store :=
                { c with activity := .idle, stage := .mark, snapshot := none, lastOutcome := .failed .mark } }))) ∧
    ∀ x, st.snapshot = some x →
      (∀ accepted landed remark, exec (.storeWriteDone accepted landed remark) s = .next
        (if st.activity ≠ .storing ∨ st.stage ≠ .write then s
         else if accepted then
          with' { st with stage := .seal, memory := Memory.writeCells st.memory (cellsFrom 8 (sectionBytes x)) }
         else failed (Memory.writeCells st.memory ((cellsFrom 8 (sectionBytes x)).take landed)) remark)) ∧
      (∀ accepted landed remark, exec (.storeSealDone accepted landed remark) s = .next
        (if st.activity ≠ .storing ∨ st.stage ≠ .seal then s
         else if accepted then
          with' { st with stage := .check, memory := Memory.writeCells st.memory (sealCells x) }
         else failed (Memory.writeCells st.memory ((sealCells x).take landed)) remark)) ∧
      (∀ read remark, exec (.storeCheckDone read remark) s = .next
        (if st.activity ≠ .storing ∨ st.stage ≠ .check then s
         else if imageRead st.memory read = some (imageBytes x) then
          reported true .check (with' { st with activity := .idle, snapshot := none, lastOutcome := .ok })
         else failed st.memory remark)) ∧
      ∀ landed remark, exec (.storeTimeout landed remark) s = .next
        (if st.activity ≠ .storing then s
         else failed (Memory.writeCells st.memory ((stageCells x st.stage).take landed)) remark)

/-- The image of any settings (R175, 11.8): 288 bytes, the header and every section at its offset, field by field as
R187 encodes them. Settings within their ranges, written as an image, are read back as those settings (R175); and a
store whose sections and header have all been written, read back without a departure, ends with outcome OK (R178). The
canonical form of the memory is the model's (assumption 4) and is kept by every command and event
(`Obligations.QueueCountersAndMemoryLaws`). -/
def Obligations.ImageCarriesTheSettings : Prop :=
  (∀ x : Settings,
    let image := imageBytes x
    let stands (offset length : Nat) (fields : List Byte) : Prop :=
      fields.length = length ∧ (image.drop offset).take length = fields
    let road := x.shaft.road
    let limits := x.shaft.limits
    let p := x.coupling
    let goals := x.ratio.goals
    let selects := x.ratio.selects
    image.length = 288 ∧ sectionBytes x = image.drop 8 ∧
    stands 0 8 (be 2 0x4E31 ++ be 2 280 ++ be 4 (crc32 (image.drop 8)).toNat) ∧
    stands 8 3 [byte x.link.node, byte x.link.group, byte x.link.rate] ∧
    stands 11 24
      (be 2 road.m ++ be 2 road.a ++ be 2 road.b ++ be 2 road.c ++ be 2 road.grade ++ be 4 limits.vMax ++
        be 2 limits.vRev ++ be 2 limits.aLim ++ be 2 limits.aStop ++ be 4 x.shaft.setpoint) ∧
    (∀ k : Roller,
      let r := x.rollers.get k
      stands (35 + 33 * (rollerNum k - 1)) 33
        (be 4 r.scale ++ [byte (directionCode r.direction)] ++ be 2 r.mass ++ be 4 r.gain ++ be 4 r.zero ++
          be 4 r.dMax ++ be 4 r.overspeed ++ be 4 r.countsPerRev ++ be 2 r.indexTol ++ be 2 r.kp ++ be 2 r.kv)) ∧
    stands 167 30
      (be 2 p.vWin ++ be 2 p.nMatch ++ be 4 p.xWin ++ be 2 p.nLoss ++ be 2 p.nRelock ++ be 2 p.tLoss ++
        be 2 p.tAttach ++ be 2 p.vStill ++ be 2 p.nSettle ++ be 2 p.tRelease ++ be 2 p.ramp ++ be 4 p.skewLimit ++
        be 2 p.skewFlywheel) ∧
    stands 197 32
      ([goals.e1, goals.e2, goals.e3, goals.e4, goals.e5, goals.e6, goals.e7].flatMap (be 4) ++
        [byte selects.fl, byte selects.fr, byte selects.rl, byte selects.rr]) ∧
    stands 229 51
      ((LineId.all.map fun l => byte (functionCode (x.line.functions.line l))) ++
        (LineId.all.map fun l => byte (x.line.counts.line l)) ++
        [byte x.line.periods.g1, byte x.line.periods.g2, byte x.line.periods.g3]) ∧
    stands 280 1 [byte x.threshold] ∧
    stands 281 7 (be 2 x.notice.enable.toNat ++ be 2 x.notice.period ++ be 3 x.notice.selection.toNat)) ∧
  (∀ x : Settings, settingsLawful x = true → settingsOfImage (imageBytes x) = some x) ∧
  ∀ (x : Settings) (s : State) (m : List Host.Cell) (remark : Bool), Memory.wf m = true →
    s.store.activity = .storing → s.store.stage = .check → s.store.snapshot = some x →
    s.store.memory = Memory.writeCells (Memory.writeCells m (cellsFrom 8 (sectionBytes x))) (sealCells x) →
    ∃ t, exec (.storeCheckDone (some []) remark) s = .next t ∧
      t.store.lastOutcome = .ok ∧ t.store.activity = .idle ∧ t.store.memory = s.store.memory

/-- Every live setting stays within its range, and so does every snapshot and every section on its way to a block
(R12, R33, R75, R118, R139, R163, R169, R175), so that a store always writes a valid image. The premises that carry the
setpoint and the zero are the laws of R25 and R45; the premise on the hand-over of limits follows from the invariant
`handoverLawful` (`Obligations.LinkAndStoreLawsHold`, assumption 10). -/
def Obligations.SettingsStayInRange : Prop :=
  ∀ (i : Instr) (s t : State), settingsKept s = true →
    (s.mail.handover.shaft = none ∨ s.shaft.mode = .idle) → exec i s = .next t → settingsKept t = true

/-- RESET and RELOAD SETTINGS (R164, R180, R181): refused BUSY while a store is in flight, RELOAD SETTINGS refused STATE
outside IDLE or with a roller coupled, and otherwise taken, acting once their reply has been sent or, at the group
address, at once (R160). And what a software reset leaves, block by block, item by item of the reset tables (R32, R58,
R71, R98, R121, R141, R150, R165, R174): the live settings, the limits formed from them and the whole store with its
counters stay. The model's own: the queue of commands, kept (assumption 1); waiting events dropped and hand-overs kept
(assumption 7); the three forces of the record of sequence 0 (assumption 8); the encoder levels kept, the line driver off
and the unfinished frame and reading lost (assumption 14); the direction in effect (assumption 21); the sample timer as
its period (assumption 32); that the record is handed to no block (assumption 34); and the items that no table gives: the
status of the reading used, the direction in effect, the frame last sent, the select, the ratio and the position mode of
the target records, the candidates, the mode view, the receive frame, the mark of SKIP and the index reference
(assumptions 29, 35). -/
def Obligations.ResetsKeepTheSettings : Prop :=
  ∀ (h : Head) (s : State),
    let rests : Prop := s.shaft.mode = .idle ∧ ∀ k : Roller,
      (s.coupling.roller.get k).state = .detached ∨ (s.coupling.roller.get k).state = .releasedUnack
    let sent (u : State) : State := { u with link := { u.link with driver := true } }
    let group : Prop :=
      s.link.rx = .hunt ∧ h.addr.toNat ≠ s.link.settings.node ∧ s.link.settings.group ≠ 0 ∧
        h.addr.toNat = s.link.settings.group
    (hears h s → s.store.activity = .storing →
      exec (.reset h) s = .next (refusedWith h 0x72#8 .busy s) ∧
      exec (.reloadSettings h) s = .next (refusedWith h 0x71#8 .busy s)) ∧
    (hears h s → s.store.activity ≠ .storing →
      let t := taken h 0xF2#8 0 [] (some .reset) (heard s)
      exec (.reset h) s = .next t ∧ exec .replyStart t = .next (sent t) ∧
        exec .replyComplete (sent t) = .next (softwareReset (heard s))) ∧
    (hears h s → s.store.activity ≠ .storing → ¬rests →
      exec (.reloadSettings h) s = .next (refusedWith h 0x71#8 .state s)) ∧
    (hears h s → s.store.activity ≠ .storing → rests →
      let t := taken h 0xF1#8 0 [] (some .reload) (heard s)
      exec (.reloadSettings h) s = .next t ∧ exec .replyStart t = .next (sent t) ∧
        exec .replyComplete (sent t) = .next (startReload (heard s))) ∧
    (group → s.store.activity = .storing →
      exec (.reset h) s = .next (countRefused (heard s)) ∧
      exec (.reloadSettings h) s = .next (countRefused (heard s))) ∧
    (group → s.store.activity ≠ .storing → exec (.reset h) s = .next (softwareReset (heard s))) ∧
    (group → s.store.activity ≠ .storing → ¬rests →
      exec (.reloadSettings h) s = .next (countRefused (heard s))) ∧
    (group → s.store.activity ≠ .storing → rests → exec (.reloadSettings h) s = .next (startReload (heard s))) ∧
    liveSettings (softwareReset s) = liveSettings s ∧
    startReload s =
      { softwareReset s with
        link := { (softwareReset s).link with rx := .off }
        store := { s.store with activity := .loading, reloading := true } } ∧
    let road := s.shaft.settings.road
    let slope := rdiv ((road.m : Int) * road.grade * 980665) 100000000
    let meas : MeasRecord :=
      { pos := ⟨0#32, 0#16⟩, vMeas := 0, ev := 0, ex := 0, demand := 0, enable := false, saturated := false }
    softwareReset s =
      { s with
        shaft :=
          { mode := .idle, speed := 0, distance := ⟨0#32, 0#16⟩, lastDv := 0, stopCause := .none
            settings := s.shaft.settings, dvLim := s.shaft.dvLim, dvStop := s.shaft.dvStop
            permitView := false, contributing := 0
            record :=
              { seq := 0#16, mode := .idle, speed := 0, dv := 0, distance := 0#32, fMeas := 0
                roadLoad := clampTo (-(road.a : Int)) road.a slope
                fGrade := slope, grade := road.grade, traceSpeed := none
                accLimited := false, speedLimited := false } }
        channel := Four.tabulate fun k =>
          let c := s.channel.get k
          { settings := c.settings, direction := c.settings.direction, phase1 := c.phase1, phase2 := c.phase2
            count := 0#32, prevCount := 0#32, illegal := 0, pos := ⟨0#32, 0#16⟩
            window := ⟨0, 0, 0, 0, 0, 0, 0, 0⟩, vMeas := 0
            rxBytes := [], held := none, used := { raw := 0, status := .none }
            force := 0, age := 0, limited := false
            forceRecord := { force := 0, age := 0, limited := false, contributing := false, refSeq := 0#16 }
            zeroing := none, view := .releasedUnack
            demand := 0, enable := false, saturated := false, ramp := none, faultHold := false
            encoderPresent := false, overspeedPresent := false, forcePresent := false, lastFault := none
            indexArmed := false, indexRef := 0#32, nextFrame := 0#8, frame := none, meas := meas }
        target :=
          { settings := s.target.settings, current := s.target.settings.goals
            roller := Four.tabulate fun k =>
              let m := s.target.settings.selects.get k
              { view := .releasedUnack, speed := 0, pos := ⟨0#32, 0#16⟩, nudge := 0
                record :=
                  { refSeq := 0#16, select := m
                    ratio :=
                      match entryOfNum m with
                      | some e => s.target.settings.goals.get e
                      | none => 0
                    speed := 0, advanced := false, pos := ⟨0#32, 0#16⟩, nudge := 0 } } }
        coupling :=
          { params := s.coupling.params
            roller := Four.tabulate fun _ =>
              { state := .releasedUnack, count := 0, timer := 0, rampEnded := false
                release := { first := .reset, subsequent := none, notSettled := false, time := 0#32 }
                permitView := false, meas := meas }
            runPermitView := false, skewCount := 0, skewRaised := false }
        profile :=
          { points := [], closed := false, run := .idle, condition := .immediate, markKept := false
            threshold := s.profile.threshold, vs := 0, elapsed := 0, target := 0, grade := 0, consumed := 0
            pulse := 0
            record := { run := .idle, target := 0, grade := 0, elapsed := 0, duration := 0, consumed := 0 } }
        line :=
          { settings := s.line.settings
            qualifiers := Lines.ofLine fun _ => { value := none, candidate := none, run := 0 }
            latches := Lines.ofLine fun _ => false
            timers := Three.tabulate fun g =>
              let period := s.line.settings.periods.get g
              if period = 0 then 10 else 20 * period
            inputs :=
              { estopChain := false, doorClosed := false, restraintOk := false, liftDown := false
                brakeReleased := Four.tabulate fun _ => false, driveReady := Four.tabulate fun _ => false
                index := Four.tabulate fun _ => false, extMark := false }
            runPermit := false, rollerPermit := Four.tabulate fun _ => false
            brakeHold := Four.tabulate fun _ => true, liftInhibit := false, runLamp := false, markOut := false
            view := Four.tabulate fun _ => .releasedUnack, modeView := .idle }
        timer := { time := 0#32, compare := 0#32, source := .compare, markCount := 0#16, lastMark := none }
        link :=
          { settings := s.link.settings, rx := .hunt, fromOff := false
            frame :=
              { addr := 0#8, length := 0#8, kind := 0#8, tag := 0#8, payload := [], crc := 0xFFFF#16, crcHigh := 0#8 }
            reply := none, driver := false, deferred := none }
        notice :=
          { settings := s.notice.settings, events := [], samples := [], sampleCount := 0, nextSeq := 0#8
            overflow := false, view := Four.tabulate fun _ => .releasedUnack }
        mail := { Mail.empty with handover := s.mail.handover } }

/-- A power-on reset and the autoload it begins (R176, R179, R182): every block at its power-on values and every
setting at its default, the memory with what a store in flight had written; the autoload ends with the settings of a
valid image, or with the defaults, which each block takes from its hand-over; the receiver leaves OFF for SKIP. The
line unit replaces counts and periods, a new period starting the group's sample timer (R139), then the codes line by
line, each with the effects of R137 (R141). The model's own: the queue of commands, kept (assumption 1); the last
autoload outcome before the first end (assumption 2); the events between blocks, dropped (assumption 7); the forces of
the record that State.reset publishes (assumption 8); the bytes that a store in flight had written, as an operand
(assumption 12), in the order of the stage (assumptions 9, 40), all 8 of SEAL a sealed image (assumption 41); that the
autoload's end enters SKIP with the sections still waiting for their blocks (assumption 10) and marks SKIP as entered from
OFF (assumption 37); the link settings acting at the autoload's end (assumption 13); the encoder levels, which outlast a
reset (assumption 14); the order of the lines, L1 to L24 (assumption 16); the index check disarmed at the hand-over
(assumption 31); the sample timer as its period (assumption 32); and the fields equal to State.reset that no reset table
gives, such as the receive frame, the stage of the store and the index reference (assumption 35). -/
def Obligations.AutoloadHandsTheSettings : Prop :=
  ∀ s : State,
    let st := s.store
    (∀ landed, exec (.powerOnReset landed) s = .next
      { State.reset with
        channel := Four.tabulate fun k =>
          { State.reset.channel.get k with
            phase1 := (s.channel.get k).phase1, phase2 := (s.channel.get k).phase2 }
        store :=
          { State.reset.store with
            memory :=
              match st.activity, st.snapshot with
              | .storing, some x => Memory.writeCells st.memory ((stageCells x st.stage).take landed)
              | _, _ => st.memory }
        pending := s.pending }) ∧
    (st.activity ≠ .loading → (∀ read, exec (.autoloadEnd read) s = .next s) ∧
      exec .autoloadTimeout s = .next s) ∧
    (st.activity = .loading →
      let ended (image : Option Settings) : State :=
        let x := match image with
          | some x => x
          | none => .default
        let loaded : State :=
          { s with
            mail :=
              { s.mail with
                handover :=
                  { shaft := some x.shaft, channel := Four.tabulate fun k => some (x.rollers.get k)
                    target := some x.ratio, coupling := some x.coupling, profile := some x.threshold
                    line := some x.line, notice := some x.notice } }
            link := { s.link with settings := x.link, rx := .skip, fromOff := true }
            store := { st with activity := .idle, reloading := false, lastImage := image.isSome } }
        if st.reloading then reportPlain .store (.reloadDone image.isSome) loaded else loaded
      exec .autoloadTimeout s = .next (ended none) ∧ exec (.autoloadEnd none) s = .next (ended none) ∧
      ∀ departs, exec (.autoloadEnd (some departs)) s = .next
        (ended (settingsOfImage (Memory.readBackList st.memory departs 0 288)))) ∧
    (∀ x, s.mail.handover.shaft = some x → ∃ t, exec (.settingsHandover .shaft) s = .next t ∧
      t.shaft = { s.shaft with
        settings := x, dvLim := rdiv ((x.limits.aLim : Int) * 65536) 100
        dvStop := rdiv ((x.limits.aStop : Int) * 65536) 100 } ∧
      t = { s with shaft := t.shaft, mail := { s.mail with handover := { s.mail.handover with shaft := none } } }) ∧
    (∀ k x, s.mail.handover.channel.get k = some x → exec (.settingsHandover (.channel k)) s = .next
      { s with
        channel := s.channel.set k { s.channel.get k with settings := x, indexArmed := false }
        mail := { s.mail with
          handover := { s.mail.handover with channel := s.mail.handover.channel.set k none } } }) ∧
    (∀ x, s.mail.handover.target = some x → exec (.settingsHandover .target) s = .next
      { s with
        target := { s.target with settings := x }
        mail := { s.mail with handover := { s.mail.handover with target := none } } }) ∧
    (∀ x, s.mail.handover.coupling = some x → exec (.settingsHandover .coupling) s = .next
      { s with
        coupling := { s.coupling with params := x }
        mail := { s.mail with handover := { s.mail.handover with coupling := none } } }) ∧
    (∀ x, s.mail.handover.profile = some x → exec (.settingsHandover .profile) s = .next
      { s with
        profile := { s.profile with threshold := x }
        mail := { s.mail with handover := { s.mail.handover with profile := none } } }) ∧
    (∀ x, s.mail.handover.notice = some x → exec (.settingsHandover .notice) s = .next
      { s with
        notice := { s.notice with settings := x, sampleCount := 0 }
        mail := { s.mail with handover := { s.mail.handover with notice := none } } }) ∧
    ∀ x, s.mail.handover.line = some x →
      let u := s.line
      let timer (g : Group) : Nat :=
        let period := x.periods.get g
        if u.settings.periods.get g = period then u.timers.get g else if period = 0 then 10 else 20 * period
      let grouped : State :=
        { s with
          line :=
            { u with
              settings := { u.settings with periods := x.periods, counts := x.counts }
              timers := Three.tabulate timer }
          mail := { s.mail with handover := { s.mail.handover with line := none } } }
      ∃ stage : Nat → State,
        stage 0 = grouped ∧
        (∀ (n : Nat) (l : LineId), LineId.all[n]? = some l →
          if (stage n).line.settings.functions.line l = x.functions.line l then stage (n + 1) = stage n
          else routed l (x.functions.line l) (stage n) (stage (n + 1))) ∧
        exec (.settingsHandover .line) s = .next (stage 24) ∧ (stage 24).line.settings = x

/-! ## Record layouts (chapter 11) -/

/-- The bytes of every notice (11.6): a header of kind, sequence number, cell time and content length, and the content
laid out by kind, each field as R187 encodes it. -/
def Obligations.NoticesAreLaidOut : Prop :=
  ∀ (seq : BitVec 8) (time : BitVec 32),
    let laid (body : NoticeBody) (kind : Byte) (length : Nat) (content : List Byte) : Prop :=
      content.length = length ∧
        noticeBytes ⟨seq, time, body⟩ = [kind, seq] ++ be 4 time.toNat ++ [byte length] ++ content
    let profile (e : ProfileEvent) (event : Byte) (speed : Int) (consumed count detail : Nat) : Prop :=
      ∀ run, laid (.profile e run) 3#8 10
        ([event, byte (runCode run)] ++ be 4 speed ++ be 2 consumed ++ [byte count, byte detail])
    (∀ k previous new reason, laid (.couplingChange k previous new reason) 1#8 4
      [byte (rollerNum k), byte (couplingCode previous), byte (couplingCode new), byte (reasonCode reason)]) ∧
    (∀ previous new cause speed (record : BitVec 16), laid (.modeChange previous new cause speed record) 2#8 9
      ([byte (modeCode previous), byte (modeCode new), byte (stopCauseCode cause)] ++ be 4 speed ++
        be 2 record.toNat)) ∧
    (∀ free, profile (.space free) 0#8 0 0 free 0) ∧
    (∀ condition v held, profile (.started condition v held) 1#8 v 0 held (conditionCode condition) ∧
      profile (.lateStart condition v held) 2#8 v 0 held (conditionCode condition)) ∧
    (∀ number consumed, profile (.cue number consumed) 3#8 0 consumed 0 number) ∧
    (∀ v consumed, profile (.finished v consumed) 4#8 v consumed 0 0 ∧
      profile (.starved v consumed) 5#8 v consumed 0 0) ∧
    (∀ cause v consumed held, profile (.abandoned cause v consumed held) 6#8 v consumed held (abandonCode cause)) ∧
    (∀ skew hi lo exHi exLo, laid (.skew skew hi lo exHi exLo) 4#8 14
      (be 4 skew ++ [byte (rollerNum hi), byte (rollerNum lo)] ++ be 4 exHi ++ be 4 exLo)) ∧
    (∀ input value line routing, laid (.lineChange input value line routing) 5#8 4
      [byte (functionCode (.input input)), flag value,
        (match line with
          | none => 0#8
          | some l => byte (lineNum l)),
        flag routing]) ∧
    (∀ source (count : BitVec 16), laid (.timeMark source count) 6#8 3
      ([byte (sourceCode source)] ++ be 2 count.toNat)) ∧
    (∀ k zero readings status,
      laid (.zeroDone k true zero readings status) 7#8 8
        ([byte (rollerNum k), 0#8] ++ be 4 zero ++ [byte readings, 0#8]) ∧
      laid (.zeroDone k false zero readings status) 7#8 8
        ([byte (rollerNum k), 1#8] ++ be 4 zero ++ [byte readings, byte (statusCode status)])) ∧
    (∀ stage, laid (.storeDone true stage) 8#8 2 [0#8, byte (stageCode stage)] ∧
      laid (.storeDone false stage) 8#8 2 [1#8, byte (stageCode stage)]) ∧
    laid (.reloadDone true) 9#8 1 [0#8] ∧ laid (.reloadDone false) 9#8 1 [1#8] ∧
    ∀ (r : RefRecord) (rollers : Four RollerSample), laid (.shaftSample r rollers) 10#8 110
      (be 2 r.seq.toNat ++ [byte (modeCode r.mode)] ++ be 4 (rdiv r.speed 65536) ++ be 4 r.dv ++
        be 4 r.distance.toNat ++ be 4 r.fMeas ++ be 4 r.roadLoad ++ be 4 r.fGrade ++ be 2 r.grade ++
        be 4 (match r.traceSpeed with
          | none => 0
          | some v => v) ++
        [byte (marks [r.accLimited, r.speedLimited, r.traceSpeed.isSome])] ++
        [rollers.fl, rollers.fr, rollers.rl, rollers.rr].flatMap fun x =>
          [byte (couplingCode x.state)] ++ be 4 x.vMeas ++ be 4 x.ex ++ be 4 x.demand ++ be 4 x.force ++
            be 2 x.refSeq.toNat)
end

