-- ==== Sys2Proof/Laws/Arith.lean ====
section
/-! SUPPORT. Rounding, clamping and positions. -/

namespace Sys2Proof.Machine

/-- The rounded quotient is within half a divisor of the dividend. -/
theorem rdiv_spec (n d : Int) (hd : 0 < d) : mag (2 * (n - rdiv n d * d)) ≤ d := by
  unfold rdiv mag
  by_cases h : 0 ≤ n
  · rw [if_pos h]
    have e := Int.mul_ediv_add_emod (2 * n + d) (2 * d)
    have a := Int.emod_nonneg (2 * n + d) (show 2 * d ≠ 0 by omega)
    have b := Int.emod_lt_of_pos (2 * n + d) (show 0 < 2 * d by omega)
    have c : 2 * ((2 * n + d) / (2 * d) * d) = 2 * d * ((2 * n + d) / (2 * d)) := by
      rw [Int.mul_comm ((2 * n + d) / (2 * d)) d, ← Int.mul_assoc]
    split <;> omega
  · rw [if_neg h]
    have e := Int.mul_ediv_add_emod (2 * -n + d) (2 * d)
    have a := Int.emod_nonneg (2 * -n + d) (show 2 * d ≠ 0 by omega)
    have b := Int.emod_lt_of_pos (2 * -n + d) (show 0 < 2 * d by omega)
    have c : 2 * (-((2 * -n + d) / (2 * d)) * d) = -(2 * d * ((2 * -n + d) / (2 * d))) := by
      rw [Int.neg_mul, Int.mul_neg, Int.mul_comm ((2 * -n + d) / (2 * d)) d, ← Int.mul_assoc]
    split <;> omega

/-- An exact quotient is exact. -/
theorem rdiv_mul_self (q d : Int) (hd : 0 < d) : rdiv (q * d) d = q := by
  have h := rdiv_spec (q * d) d hd
  have e : 2 * (q * d - rdiv (q * d) d * d) = 2 * ((q - rdiv (q * d) d) * d) := by rw [Int.sub_mul]
  rw [e] at h
  have k : mag (2 * ((q - rdiv (q * d) d) * d)) < 2 * d := by omega
  by_cases z : q - rdiv (q * d) d = 0
  · omega
  · exfalso
    have : d ≤ mag ((q - rdiv (q * d) d) * d) := by
      unfold mag
      rcases Int.lt_or_gt_of_ne z with n | p
      · have : (q - rdiv (q * d) d) * d ≤ -1 * d := Int.mul_le_mul_of_nonneg_right (by omega) (by omega)
        split <;> omega
      · have : 1 * d ≤ (q - rdiv (q * d) d) * d := Int.mul_le_mul_of_nonneg_right (by omega) (by omega)
        split <;> omega
    unfold mag at this k
    split at this <;> split at k <;> omega

theorem rdiv_zero (d : Int) (hd : 0 < d) : rdiv 0 d = 0 := by
  simpa using rdiv_mul_self 0 d hd

/-- A quotient of a number within `±(b·d)` lies within `±b`. -/
theorem rdiv_bound (n d b : Int) (hd : 0 < d) (h : mag n ≤ b * d) : mag (rdiv n d) ≤ b := by
  have s := rdiv_spec n d hd
  by_cases c : mag (rdiv n d) ≤ b
  · exact c
  · exfalso
    unfold mag at *
    have pos : 0 ≤ b * d := by split at h <;> omega
    by_cases r : rdiv n d < 0
    · rw [if_pos r] at c
      have : rdiv n d * d ≤ (-b - 1) * d := Int.mul_le_mul_of_nonneg_right (by omega) (by omega)
      rw [Int.sub_mul, Int.neg_mul, Int.one_mul] at this
      split at s <;> split at h <;> omega
    · rw [if_neg r] at c
      have : (b + 1) * d ≤ rdiv n d * d := Int.mul_le_mul_of_nonneg_right (by omega) (by omega)
      rw [Int.add_mul, Int.one_mul] at this
      split at s <;> split at h <;> omega

/-- A clamped value lies in its interval. -/
theorem clampTo_mem (lo hi x : Int) (h : lo ≤ hi) : lo ≤ clampTo lo hi x ∧ clampTo lo hi x ≤ hi := by
  unfold clampTo; split
  · omega
  · split <;> omega

theorem clampTo_of_mem (lo hi x : Int) (h : lo ≤ x) (h' : x ≤ hi) : clampTo lo hi x = x := by
  unfold clampTo; rw [if_neg (by omega), if_neg (by omega)]

theorem clampAbs_bound (c x : Int) (h : 0 ≤ c) : mag (clampAbs c x) ≤ c := by
  have := clampTo_mem (-c) c x (by omega)
  unfold mag clampAbs; split <;> omega

theorem inRange_iff (lo hi x : Int) : inRange lo hi x = true ↔ lo ≤ x ∧ x ≤ hi := by
  simp [inRange]

/-- An advance moves the raw position by the increment, modulo 2⁴⁸ (0.6.3, R29, R38). -/
theorem Pos.raw_advance (p : Pos) (inc : Int) : (p.advance inc).raw = (p.raw + inc) % (2 ^ 48) := by
  have e : ∀ t : Int, ((BitVec.ofInt 32 (t / 65536)).toNat : Int) * 65536 + ((BitVec.ofInt 16 t).toNat : Int) =
      t % 2 ^ 48 := by
    intro t
    simp only [BitVec.toNat_ofInt]
    omega
  exact e (p.raw + inc)

end Sys2Proof.Machine
end

