-- ==== Sys2Proof/Laws/Bytes.lean ====
section
/-! SUPPORT. Fields written as bytes and read back (R187). -/

namespace Sys2Proof.Machine

@[simp] theorem be_length (n : Nat) (v : Int) : (be n v).length = n := by
  induction n generalizing v with
  | zero => rfl
  | succ n ih => simp [be, ih]

theorem beNat_foldl (bytes : List Byte) (acc : Nat) :
    bytes.foldl (fun a b => a * 256 + b.toNat) acc = acc * 256 ^ bytes.length + beNat bytes := by
  induction bytes generalizing acc with
  | nil => simp [beNat]
  | cons b bs ih =>
    simp only [List.foldl_cons, List.length_cons, beNat] at *
    rw [ih, ih (0 * 256 + b.toNat), Nat.pow_succ, Nat.add_mul, Nat.zero_mul, Nat.zero_add, Nat.add_assoc,
      Nat.mul_assoc acc, Nat.mul_comm 256]

theorem beNat_cons (b : Byte) (bs : List Byte) : beNat (b :: bs) = b.toNat * 256 ^ bs.length + beNat bs := by
  simpa [beNat] using beNat_foldl bs b.toNat

/-- A field written carries its value modulo its width. -/
theorem beNat_be (n : Nat) (v : Int) : (beNat (be n v) : Int) = v % ((256 ^ n : Nat) : Int) := by
  induction n generalizing v with
  | zero => simp [be, beNat]
  | succ n ih =>
    have r : ∀ z : Int, ((BitVec.ofInt 8 z).toNat : Int) = z % 256 := by
      intro z; rw [BitVec.toNat_ofInt]; omega
    rw [be, beNat_cons, be_length, Int.natCast_add, Int.natCast_mul, ih, r]
    have p : (0 : Int) < ((256 ^ n : Nat) : Int) := by exact Int.natCast_pos.mpr (Nat.pow_pos (by decide))
    have e : ((256 ^ (n + 1) : Nat) : Int) = ((256 ^ n : Nat) : Int) * 256 := by
      rw [Nat.pow_succ, Int.natCast_mul]; rfl
    have q : v % ((256 ^ n : Nat) * 256 : Int) =
        (256 ^ n : Nat) * (v / (256 ^ n : Nat) % 256) + v % (256 ^ n : Nat) := by
      have h1 := Int.mul_ediv_add_emod v ((256 ^ n : Nat) : Int)
      have h2 := Int.mul_ediv_add_emod (v / ((256 ^ n : Nat) : Int)) 256
      have a := Int.emod_nonneg v (Int.ne_of_gt p)
      have b := Int.emod_lt_of_pos v p
      have c := Int.emod_nonneg (v / ((256 ^ n : Nat) : Int)) (show (256 : Int) ≠ 0 by decide)
      have d := Int.emod_lt_of_pos (v / ((256 ^ n : Nat) : Int)) (show (0 : Int) < 256 by decide)
      generalize hP : ((256 ^ n : Nat) : Int) = P at *
      generalize v / P = x at *
      generalize hy : v % P = y at *
      have key : v = P * 256 * (x / 256) + (P * (x % 256) + y) := by
        rw [← h1]
        conv => lhs; rw [← h2]
        rw [Int.mul_add, Int.mul_assoc]; omega
      rw [key, Int.add_comm (P * 256 * (x / 256)), Int.add_mul_emod_self_left]
      apply Int.emod_eq_of_lt
      · exact Int.add_nonneg (Int.mul_nonneg (by omega) c) a
      · have : P * (x % 256) ≤ P * 255 := Int.mul_le_mul_of_nonneg_left (by omega) (by omega)
        omega
    rw [e, q, Int.mul_comm]

/-- An unsigned field that fits its width reads back. -/
theorem beNat_be_nat (n x : Nat) (h : x < 256 ^ n) : beNat (be n (x : Int)) = x := by
  have e := beNat_be n (x : Int)
  rw [Int.emod_eq_of_lt (by omega) (by exact_mod_cast h)] at e
  exact_mod_cast e

/-- A field stands where the bytes before it end. -/
theorem fieldU_append (off size : Nat) (pre x post : List Byte) (h : pre.length = off) (h' : x.length = size) :
    fieldU off size (pre ++ (x ++ post)) = beNat x := by
  subst h h'
  simp [fieldU]

/-- A signed field that fits its width reads back. -/
theorem fieldS_append_be (off n : Nat) (pre post : List Byte) (v : Int) (h : pre.length = off)
    (hn : 0 < n) (lo : -((256 ^ n : Nat) : Int) ≤ 2 * v) (hi : 2 * v < ((256 ^ n : Nat) : Int)) :
    fieldS off n (pre ++ (be n v ++ post)) = v := by
  have e := beNat_be n v
  have ev : (256 ^ n : Nat) % 2 = 0 := by
    obtain ⟨m, rfl⟩ := Nat.exists_eq_succ_of_ne_zero (Nat.ne_of_gt hn)
    rw [Nat.pow_succ]; omega
  unfold fieldS
  rw [fieldU_append off n pre (be n v) post h (be_length n v)]
  by_cases z : 0 ≤ v
  · rw [Int.emod_eq_of_lt z (by omega)] at e
    simp only
    rw [if_pos (by omega)]; exact e
  · have : v % ((256 ^ n : Nat) : Int) = v + ((256 ^ n : Nat) : Int) := by
      rw [← Int.add_emod_right, Int.emod_eq_of_lt (by omega) (by omega)]
    rw [this] at e
    simp only
    rw [if_neg (by omega)]; omega

end Sys2Proof.Machine
end

