-- ==== Sys2Proof/Laws/Frames.lean ====
section
/-! SUPPORT. Mail in which only coupling changes differ, said once: what has only told the five receivers of
changes has sent nothing else (R73). -/

namespace Sys2Proof.Machine

@[simp] theorem onlyChangesSent_refl (m : Mail) : onlyChangesSent m m := rfl

theorem onlyChangesSent_trans {a b c : Mail} (hab : onlyChangesSent a b) (hbc : onlyChangesSent b c) :
    onlyChangesSent a c := by
  unfold onlyChangesSent at *
  rw [hbc, hab]

/-- A coupling change event goes to its five receivers and to nothing else (R73). -/
theorem sendChange_onlyChangesSent (k : Roller) (c : Change) (s : State) :
    onlyChangesSent s.mail (sendChange k c s).mail := rfl

/-- An empty load lays out no point (11.4). -/
@[simp] theorem pointsLaid_nil (bytes : List Byte) : pointsLaid [] bytes ↔ bytes = [] := Iff.rfl

end Sys2Proof.Machine
end

