-- ==== Sys2Proof/Laws/State.lean ====
section
/-! SUPPORT. What each named update of the state leaves as it is, field by field, and what it makes of the
field it changes; and the readers and writers of the fixed collections. -/

namespace Sys2Proof

/-! ## Fixed collections -/

variable {α β : Type}

@[simp] theorem Four.get_set_self (v : Four α) (k : Roller) (x : α) : (v.set k x).get k = x := by
  cases k <;> rfl

theorem Four.get_set_ne (v : Four α) {k j : Roller} (h : j ≠ k) (x : α) : (v.set k x).get j = v.get j := by
  cases k <;> cases j <;> first | rfl | exact absurd rfl h

theorem Four.get_set (v : Four α) (k j : Roller) (x : α) :
    (v.set k x).get j = if j = k then x else v.get j := by
  cases k <;> cases j <;> rfl

@[simp] theorem Four.get_tabulate (f : Roller → α) (k : Roller) : (Four.tabulate f).get k = f k := by
  cases k <;> rfl

@[simp] theorem Four.get_map (f : α → β) (v : Four α) (k : Roller) : (v.map f).get k = f (v.get k) := by
  cases k <;> rfl

@[simp] theorem Four.get_replicate (x : α) (k : Roller) : (Four.replicate x).get k = x := by
  cases k <;> rfl

@[simp] theorem Four.set_get (v : Four α) (k : Roller) : v.set k (v.get k) = v := by
  cases k <;> rfl

theorem Four.ext_get {v w : Four α} (h : ∀ k, v.get k = w.get k) : v = w := by
  cases v; cases w
  have a := h .fl; have b := h .fr; have c := h .rl; have d := h .rr
  simp only [Four.get] at a b c d
  subst a b c d; rfl

theorem Roller.mem_all (k : Roller) : k ∈ Roller.all := by
  cases k <;> decide

@[simp] theorem Seven.get_tabulate (f : Entry → α) (i : Entry) : (Seven.tabulate f).get i = f i := by
  cases i <;> rfl

theorem Seven.get_set (v : Seven α) (i j : Entry) (x : α) :
    (v.set i x).get j = if j = i then x else v.get j := by
  cases i <;> cases j <;> rfl

theorem Three.get_set (v : Three α) (g j : Group) (x : α) :
    (v.set g x).get j = if j = g then x else v.get j := by
  cases g <;> cases j <;> rfl

@[simp] theorem Three.get_tabulate (f : Group → α) (g : Group) : (Three.tabulate f).get g = f g := by
  cases g <;> rfl

theorem Eight.get_set (v : Eight α) (p j : Slot) (x : α) :
    (v.set p x).get j = if j = p then x else v.get j := by
  cases p <;> cases j <;> rfl

@[simp] theorem Eight.get_tabulate (f : Slot → α) (p : Slot) : (Eight.tabulate f).get p = f p := by
  cases p <;> rfl

@[simp] theorem Lines.line_ofLine (f : LineId → α) (l : LineId) : (Lines.ofLine f).line l = f l := by
  cases l; simp [Lines.ofLine, Lines.line]

theorem Lines.line_setLine (v : Lines α) (l m : LineId) (x : α) :
    (v.setLine l x).line m = if m = l then x else v.line m := by
  obtain ⟨g, p⟩ := l; obtain ⟨g', p'⟩ := m
  simp only [Lines.setLine, Lines.line, Three.get_set]
  by_cases h : g' = g
  · subst h; simp [Eight.get_set]
  · simp [h]

theorem LineId.mem_all (l : LineId) : l ∈ LineId.all := by
  obtain ⟨g, p⟩ := l
  cases g <;> cases p <;> decide

namespace Machine

variable (s : State)

/-! ## `onChannel` -/

@[simp] theorem onChannel_shaft (k : Roller) (f : Channel → Channel) :
    (onChannel k f s).shaft = s.shaft := rfl
@[simp] theorem onChannel_channel (k : Roller) (f : Channel → Channel) :
    (onChannel k f s).channel = s.channel.set k (f (s.channel.get k)) := rfl
@[simp] theorem onChannel_target (k : Roller) (f : Channel → Channel) :
    (onChannel k f s).target = s.target := rfl
@[simp] theorem onChannel_coupling (k : Roller) (f : Channel → Channel) :
    (onChannel k f s).coupling = s.coupling := rfl
@[simp] theorem onChannel_profile (k : Roller) (f : Channel → Channel) :
    (onChannel k f s).profile = s.profile := rfl
@[simp] theorem onChannel_line (k : Roller) (f : Channel → Channel) : (onChannel k f s).line = s.line := rfl
@[simp] theorem onChannel_timer (k : Roller) (f : Channel → Channel) :
    (onChannel k f s).timer = s.timer := rfl
@[simp] theorem onChannel_link (k : Roller) (f : Channel → Channel) : (onChannel k f s).link = s.link := rfl
@[simp] theorem onChannel_notice (k : Roller) (f : Channel → Channel) :
    (onChannel k f s).notice = s.notice := rfl
@[simp] theorem onChannel_store (k : Roller) (f : Channel → Channel) :
    (onChannel k f s).store = s.store := rfl
@[simp] theorem onChannel_mail (k : Roller) (f : Channel → Channel) : (onChannel k f s).mail = s.mail := rfl
@[simp] theorem onChannel_pending (k : Roller) (f : Channel → Channel) :
    (onChannel k f s).pending = s.pending := rfl

/-! ## `onTarget` -/

@[simp] theorem onTarget_shaft (k : Roller) (f : TargetRoller → TargetRoller) :
    (onTarget k f s).shaft = s.shaft := rfl
@[simp] theorem onTarget_channel (k : Roller) (f : TargetRoller → TargetRoller) :
    (onTarget k f s).channel = s.channel := rfl
@[simp] theorem onTarget_target (k : Roller) (f : TargetRoller → TargetRoller) :
    (onTarget k f s).target = { s.target with roller := s.target.roller.set k (f (s.target.roller.get k)) } := rfl
@[simp] theorem onTarget_coupling (k : Roller) (f : TargetRoller → TargetRoller) :
    (onTarget k f s).coupling = s.coupling := rfl
@[simp] theorem onTarget_profile (k : Roller) (f : TargetRoller → TargetRoller) :
    (onTarget k f s).profile = s.profile := rfl
@[simp] theorem onTarget_line (k : Roller) (f : TargetRoller → TargetRoller) :
    (onTarget k f s).line = s.line := rfl
@[simp] theorem onTarget_timer (k : Roller) (f : TargetRoller → TargetRoller) :
    (onTarget k f s).timer = s.timer := rfl
@[simp] theorem onTarget_link (k : Roller) (f : TargetRoller → TargetRoller) :
    (onTarget k f s).link = s.link := rfl
@[simp] theorem onTarget_notice (k : Roller) (f : TargetRoller → TargetRoller) :
    (onTarget k f s).notice = s.notice := rfl
@[simp] theorem onTarget_store (k : Roller) (f : TargetRoller → TargetRoller) :
    (onTarget k f s).store = s.store := rfl
@[simp] theorem onTarget_mail (k : Roller) (f : TargetRoller → TargetRoller) :
    (onTarget k f s).mail = s.mail := rfl
@[simp] theorem onTarget_pending (k : Roller) (f : TargetRoller → TargetRoller) :
    (onTarget k f s).pending = s.pending := rfl

/-! ## `onCoupling` -/

@[simp] theorem onCoupling_shaft (k : Roller) (f : CouplingRoller → CouplingRoller) :
    (onCoupling k f s).shaft = s.shaft := rfl
@[simp] theorem onCoupling_channel (k : Roller) (f : CouplingRoller → CouplingRoller) :
    (onCoupling k f s).channel = s.channel := rfl
@[simp] theorem onCoupling_target (k : Roller) (f : CouplingRoller → CouplingRoller) :
    (onCoupling k f s).target = s.target := rfl
@[simp] theorem onCoupling_coupling (k : Roller) (f : CouplingRoller → CouplingRoller) :
    (onCoupling k f s).coupling = { s.coupling with roller := s.coupling.roller.set k (f (s.coupling.roller.get k)) } := rfl
@[simp] theorem onCoupling_profile (k : Roller) (f : CouplingRoller → CouplingRoller) :
    (onCoupling k f s).profile = s.profile := rfl
@[simp] theorem onCoupling_line (k : Roller) (f : CouplingRoller → CouplingRoller) :
    (onCoupling k f s).line = s.line := rfl
@[simp] theorem onCoupling_timer (k : Roller) (f : CouplingRoller → CouplingRoller) :
    (onCoupling k f s).timer = s.timer := rfl
@[simp] theorem onCoupling_link (k : Roller) (f : CouplingRoller → CouplingRoller) :
    (onCoupling k f s).link = s.link := rfl
@[simp] theorem onCoupling_notice (k : Roller) (f : CouplingRoller → CouplingRoller) :
    (onCoupling k f s).notice = s.notice := rfl
@[simp] theorem onCoupling_store (k : Roller) (f : CouplingRoller → CouplingRoller) :
    (onCoupling k f s).store = s.store := rfl
@[simp] theorem onCoupling_mail (k : Roller) (f : CouplingRoller → CouplingRoller) :
    (onCoupling k f s).mail = s.mail := rfl
@[simp] theorem onCoupling_pending (k : Roller) (f : CouplingRoller → CouplingRoller) :
    (onCoupling k f s).pending = s.pending := rfl

/-! ## `onCounters` -/

@[simp] theorem onCounters_shaft (f : Counters → Counters) : (onCounters f s).shaft = s.shaft := rfl
@[simp] theorem onCounters_channel (f : Counters → Counters) : (onCounters f s).channel = s.channel := rfl
@[simp] theorem onCounters_target (f : Counters → Counters) : (onCounters f s).target = s.target := rfl
@[simp] theorem onCounters_coupling (f : Counters → Counters) : (onCounters f s).coupling = s.coupling := rfl
@[simp] theorem onCounters_profile (f : Counters → Counters) : (onCounters f s).profile = s.profile := rfl
@[simp] theorem onCounters_line (f : Counters → Counters) : (onCounters f s).line = s.line := rfl
@[simp] theorem onCounters_timer (f : Counters → Counters) : (onCounters f s).timer = s.timer := rfl
@[simp] theorem onCounters_link (f : Counters → Counters) : (onCounters f s).link = s.link := rfl
@[simp] theorem onCounters_notice (f : Counters → Counters) : (onCounters f s).notice = s.notice := rfl
@[simp] theorem onCounters_store (f : Counters → Counters) :
    (onCounters f s).store = { s.store with counters := f s.store.counters } := rfl
@[simp] theorem onCounters_mail (f : Counters → Counters) : (onCounters f s).mail = s.mail := rfl
@[simp] theorem onCounters_pending (f : Counters → Counters) : (onCounters f s).pending = s.pending := rfl

/-! ## `onMail` -/

@[simp] theorem onMail_shaft (f : Mail → Mail) : (onMail f s).shaft = s.shaft := rfl
@[simp] theorem onMail_channel (f : Mail → Mail) : (onMail f s).channel = s.channel := rfl
@[simp] theorem onMail_target (f : Mail → Mail) : (onMail f s).target = s.target := rfl
@[simp] theorem onMail_coupling (f : Mail → Mail) : (onMail f s).coupling = s.coupling := rfl
@[simp] theorem onMail_profile (f : Mail → Mail) : (onMail f s).profile = s.profile := rfl
@[simp] theorem onMail_line (f : Mail → Mail) : (onMail f s).line = s.line := rfl
@[simp] theorem onMail_timer (f : Mail → Mail) : (onMail f s).timer = s.timer := rfl
@[simp] theorem onMail_link (f : Mail → Mail) : (onMail f s).link = s.link := rfl
@[simp] theorem onMail_notice (f : Mail → Mail) : (onMail f s).notice = s.notice := rfl
@[simp] theorem onMail_store (f : Mail → Mail) : (onMail f s).store = s.store := rfl
@[simp] theorem onMail_mail (f : Mail → Mail) : (onMail f s).mail = f s.mail := rfl
@[simp] theorem onMail_pending (f : Mail → Mail) : (onMail f s).pending = s.pending := rfl

/-! ## `onProfile` -/

@[simp] theorem onProfile_shaft (f : Profile → Profile) : (onProfile f s).shaft = s.shaft := rfl
@[simp] theorem onProfile_channel (f : Profile → Profile) : (onProfile f s).channel = s.channel := rfl
@[simp] theorem onProfile_target (f : Profile → Profile) : (onProfile f s).target = s.target := rfl
@[simp] theorem onProfile_coupling (f : Profile → Profile) : (onProfile f s).coupling = s.coupling := rfl
@[simp] theorem onProfile_profile (f : Profile → Profile) : (onProfile f s).profile = f s.profile := rfl
@[simp] theorem onProfile_line (f : Profile → Profile) : (onProfile f s).line = s.line := rfl
@[simp] theorem onProfile_timer (f : Profile → Profile) : (onProfile f s).timer = s.timer := rfl
@[simp] theorem onProfile_link (f : Profile → Profile) : (onProfile f s).link = s.link := rfl
@[simp] theorem onProfile_notice (f : Profile → Profile) : (onProfile f s).notice = s.notice := rfl
@[simp] theorem onProfile_store (f : Profile → Profile) : (onProfile f s).store = s.store := rfl
@[simp] theorem onProfile_mail (f : Profile → Profile) : (onProfile f s).mail = s.mail := rfl
@[simp] theorem onProfile_pending (f : Profile → Profile) : (onProfile f s).pending = s.pending := rfl

/-! ## `onLine` -/

@[simp] theorem onLine_shaft (f : LineUnit → LineUnit) : (onLine f s).shaft = s.shaft := rfl
@[simp] theorem onLine_channel (f : LineUnit → LineUnit) : (onLine f s).channel = s.channel := rfl
@[simp] theorem onLine_target (f : LineUnit → LineUnit) : (onLine f s).target = s.target := rfl
@[simp] theorem onLine_coupling (f : LineUnit → LineUnit) : (onLine f s).coupling = s.coupling := rfl
@[simp] theorem onLine_profile (f : LineUnit → LineUnit) : (onLine f s).profile = s.profile := rfl
@[simp] theorem onLine_line (f : LineUnit → LineUnit) : (onLine f s).line = f s.line := rfl
@[simp] theorem onLine_timer (f : LineUnit → LineUnit) : (onLine f s).timer = s.timer := rfl
@[simp] theorem onLine_link (f : LineUnit → LineUnit) : (onLine f s).link = s.link := rfl
@[simp] theorem onLine_notice (f : LineUnit → LineUnit) : (onLine f s).notice = s.notice := rfl
@[simp] theorem onLine_store (f : LineUnit → LineUnit) : (onLine f s).store = s.store := rfl
@[simp] theorem onLine_mail (f : LineUnit → LineUnit) : (onLine f s).mail = s.mail := rfl
@[simp] theorem onLine_pending (f : LineUnit → LineUnit) : (onLine f s).pending = s.pending := rfl

/-! ## `onStore` -/

@[simp] theorem onStore_shaft (f : Store → Store) : (onStore f s).shaft = s.shaft := rfl
@[simp] theorem onStore_channel (f : Store → Store) : (onStore f s).channel = s.channel := rfl
@[simp] theorem onStore_target (f : Store → Store) : (onStore f s).target = s.target := rfl
@[simp] theorem onStore_coupling (f : Store → Store) : (onStore f s).coupling = s.coupling := rfl
@[simp] theorem onStore_profile (f : Store → Store) : (onStore f s).profile = s.profile := rfl
@[simp] theorem onStore_line (f : Store → Store) : (onStore f s).line = s.line := rfl
@[simp] theorem onStore_timer (f : Store → Store) : (onStore f s).timer = s.timer := rfl
@[simp] theorem onStore_link (f : Store → Store) : (onStore f s).link = s.link := rfl
@[simp] theorem onStore_notice (f : Store → Store) : (onStore f s).notice = s.notice := rfl
@[simp] theorem onStore_store (f : Store → Store) : (onStore f s).store = f s.store := rfl
@[simp] theorem onStore_mail (f : Store → Store) : (onStore f s).mail = s.mail := rfl
@[simp] theorem onStore_pending (f : Store → Store) : (onStore f s).pending = s.pending := rfl

/-! ## `onLink` -/

@[simp] theorem onLink_shaft (f : Link → Link) : (onLink f s).shaft = s.shaft := rfl
@[simp] theorem onLink_channel (f : Link → Link) : (onLink f s).channel = s.channel := rfl
@[simp] theorem onLink_target (f : Link → Link) : (onLink f s).target = s.target := rfl
@[simp] theorem onLink_coupling (f : Link → Link) : (onLink f s).coupling = s.coupling := rfl
@[simp] theorem onLink_profile (f : Link → Link) : (onLink f s).profile = s.profile := rfl
@[simp] theorem onLink_line (f : Link → Link) : (onLink f s).line = s.line := rfl
@[simp] theorem onLink_timer (f : Link → Link) : (onLink f s).timer = s.timer := rfl
@[simp] theorem onLink_link (f : Link → Link) : (onLink f s).link = f s.link := rfl
@[simp] theorem onLink_notice (f : Link → Link) : (onLink f s).notice = s.notice := rfl
@[simp] theorem onLink_store (f : Link → Link) : (onLink f s).store = s.store := rfl
@[simp] theorem onLink_mail (f : Link → Link) : (onLink f s).mail = s.mail := rfl
@[simp] theorem onLink_pending (f : Link → Link) : (onLink f s).pending = s.pending := rfl

/-! ## `onRollerCounters` -/

@[simp] theorem onRollerCounters_shaft (k : Roller) (f : RollerCounters → RollerCounters) :
    (onRollerCounters k f s).shaft = s.shaft := rfl
@[simp] theorem onRollerCounters_channel (k : Roller) (f : RollerCounters → RollerCounters) :
    (onRollerCounters k f s).channel = s.channel := rfl
@[simp] theorem onRollerCounters_target (k : Roller) (f : RollerCounters → RollerCounters) :
    (onRollerCounters k f s).target = s.target := rfl
@[simp] theorem onRollerCounters_coupling (k : Roller) (f : RollerCounters → RollerCounters) :
    (onRollerCounters k f s).coupling = s.coupling := rfl
@[simp] theorem onRollerCounters_profile (k : Roller) (f : RollerCounters → RollerCounters) :
    (onRollerCounters k f s).profile = s.profile := rfl
@[simp] theorem onRollerCounters_line (k : Roller) (f : RollerCounters → RollerCounters) :
    (onRollerCounters k f s).line = s.line := rfl
@[simp] theorem onRollerCounters_timer (k : Roller) (f : RollerCounters → RollerCounters) :
    (onRollerCounters k f s).timer = s.timer := rfl
@[simp] theorem onRollerCounters_link (k : Roller) (f : RollerCounters → RollerCounters) :
    (onRollerCounters k f s).link = s.link := rfl
@[simp] theorem onRollerCounters_notice (k : Roller) (f : RollerCounters → RollerCounters) :
    (onRollerCounters k f s).notice = s.notice := rfl
@[simp] theorem onRollerCounters_mail (k : Roller) (f : RollerCounters → RollerCounters) :
    (onRollerCounters k f s).mail = s.mail := rfl
@[simp] theorem onRollerCounters_pending (k : Roller) (f : RollerCounters → RollerCounters) :
    (onRollerCounters k f s).pending = s.pending := rfl

/-! ## `countAccepted` -/

@[simp] theorem countAccepted_shaft : (countAccepted s).shaft = s.shaft := rfl
@[simp] theorem countAccepted_channel : (countAccepted s).channel = s.channel := rfl
@[simp] theorem countAccepted_target : (countAccepted s).target = s.target := rfl
@[simp] theorem countAccepted_coupling : (countAccepted s).coupling = s.coupling := rfl
@[simp] theorem countAccepted_profile : (countAccepted s).profile = s.profile := rfl
@[simp] theorem countAccepted_line : (countAccepted s).line = s.line := rfl
@[simp] theorem countAccepted_timer : (countAccepted s).timer = s.timer := rfl
@[simp] theorem countAccepted_link : (countAccepted s).link = s.link := rfl
@[simp] theorem countAccepted_notice : (countAccepted s).notice = s.notice := rfl
@[simp] theorem countAccepted_mail : (countAccepted s).mail = s.mail := rfl
@[simp] theorem countAccepted_pending : (countAccepted s).pending = s.pending := rfl

/-! ## `countDiscarded` -/

@[simp] theorem countDiscarded_shaft : (countDiscarded s).shaft = s.shaft := rfl
@[simp] theorem countDiscarded_channel : (countDiscarded s).channel = s.channel := rfl
@[simp] theorem countDiscarded_target : (countDiscarded s).target = s.target := rfl
@[simp] theorem countDiscarded_coupling : (countDiscarded s).coupling = s.coupling := rfl
@[simp] theorem countDiscarded_profile : (countDiscarded s).profile = s.profile := rfl
@[simp] theorem countDiscarded_line : (countDiscarded s).line = s.line := rfl
@[simp] theorem countDiscarded_timer : (countDiscarded s).timer = s.timer := rfl
@[simp] theorem countDiscarded_link : (countDiscarded s).link = s.link := rfl
@[simp] theorem countDiscarded_notice : (countDiscarded s).notice = s.notice := rfl
@[simp] theorem countDiscarded_mail : (countDiscarded s).mail = s.mail := rfl
@[simp] theorem countDiscarded_pending : (countDiscarded s).pending = s.pending := rfl

/-! ## `countRefused` -/

@[simp] theorem countRefused_shaft : (countRefused s).shaft = s.shaft := rfl
@[simp] theorem countRefused_channel : (countRefused s).channel = s.channel := rfl
@[simp] theorem countRefused_target : (countRefused s).target = s.target := rfl
@[simp] theorem countRefused_coupling : (countRefused s).coupling = s.coupling := rfl
@[simp] theorem countRefused_profile : (countRefused s).profile = s.profile := rfl
@[simp] theorem countRefused_line : (countRefused s).line = s.line := rfl
@[simp] theorem countRefused_timer : (countRefused s).timer = s.timer := rfl
@[simp] theorem countRefused_link : (countRefused s).link = s.link := rfl
@[simp] theorem countRefused_notice : (countRefused s).notice = s.notice := rfl
@[simp] theorem countRefused_mail : (countRefused s).mail = s.mail := rfl
@[simp] theorem countRefused_pending : (countRefused s).pending = s.pending := rfl

/-! ## `countNoticeLost` -/

@[simp] theorem countNoticeLost_shaft : (countNoticeLost s).shaft = s.shaft := rfl
@[simp] theorem countNoticeLost_channel : (countNoticeLost s).channel = s.channel := rfl
@[simp] theorem countNoticeLost_target : (countNoticeLost s).target = s.target := rfl
@[simp] theorem countNoticeLost_coupling : (countNoticeLost s).coupling = s.coupling := rfl
@[simp] theorem countNoticeLost_profile : (countNoticeLost s).profile = s.profile := rfl
@[simp] theorem countNoticeLost_line : (countNoticeLost s).line = s.line := rfl
@[simp] theorem countNoticeLost_timer : (countNoticeLost s).timer = s.timer := rfl
@[simp] theorem countNoticeLost_link : (countNoticeLost s).link = s.link := rfl
@[simp] theorem countNoticeLost_notice : (countNoticeLost s).notice = s.notice := rfl
@[simp] theorem countNoticeLost_mail : (countNoticeLost s).mail = s.mail := rfl
@[simp] theorem countNoticeLost_pending : (countNoticeLost s).pending = s.pending := rfl

/-! ## `countUnderrun` -/

@[simp] theorem countUnderrun_shaft : (countUnderrun s).shaft = s.shaft := rfl
@[simp] theorem countUnderrun_channel : (countUnderrun s).channel = s.channel := rfl
@[simp] theorem countUnderrun_target : (countUnderrun s).target = s.target := rfl
@[simp] theorem countUnderrun_coupling : (countUnderrun s).coupling = s.coupling := rfl
@[simp] theorem countUnderrun_profile : (countUnderrun s).profile = s.profile := rfl
@[simp] theorem countUnderrun_line : (countUnderrun s).line = s.line := rfl
@[simp] theorem countUnderrun_timer : (countUnderrun s).timer = s.timer := rfl
@[simp] theorem countUnderrun_link : (countUnderrun s).link = s.link := rfl
@[simp] theorem countUnderrun_notice : (countUnderrun s).notice = s.notice := rfl
@[simp] theorem countUnderrun_mail : (countUnderrun s).mail = s.mail := rfl
@[simp] theorem countUnderrun_pending : (countUnderrun s).pending = s.pending := rfl

/-! ## `countLockLoss` -/

@[simp] theorem countLockLoss_shaft (k : Roller) : (countLockLoss k s).shaft = s.shaft := rfl
@[simp] theorem countLockLoss_channel (k : Roller) : (countLockLoss k s).channel = s.channel := rfl
@[simp] theorem countLockLoss_target (k : Roller) : (countLockLoss k s).target = s.target := rfl
@[simp] theorem countLockLoss_coupling (k : Roller) : (countLockLoss k s).coupling = s.coupling := rfl
@[simp] theorem countLockLoss_profile (k : Roller) : (countLockLoss k s).profile = s.profile := rfl
@[simp] theorem countLockLoss_line (k : Roller) : (countLockLoss k s).line = s.line := rfl
@[simp] theorem countLockLoss_timer (k : Roller) : (countLockLoss k s).timer = s.timer := rfl
@[simp] theorem countLockLoss_link (k : Roller) : (countLockLoss k s).link = s.link := rfl
@[simp] theorem countLockLoss_notice (k : Roller) : (countLockLoss k s).notice = s.notice := rfl
@[simp] theorem countLockLoss_mail (k : Roller) : (countLockLoss k s).mail = s.mail := rfl
@[simp] theorem countLockLoss_pending (k : Roller) : (countLockLoss k s).pending = s.pending := rfl

/-! ## `countSaturated` -/

@[simp] theorem countSaturated_shaft (k : Roller) : (countSaturated k s).shaft = s.shaft := rfl
@[simp] theorem countSaturated_channel (k : Roller) : (countSaturated k s).channel = s.channel := rfl
@[simp] theorem countSaturated_target (k : Roller) : (countSaturated k s).target = s.target := rfl
@[simp] theorem countSaturated_coupling (k : Roller) : (countSaturated k s).coupling = s.coupling := rfl
@[simp] theorem countSaturated_profile (k : Roller) : (countSaturated k s).profile = s.profile := rfl
@[simp] theorem countSaturated_line (k : Roller) : (countSaturated k s).line = s.line := rfl
@[simp] theorem countSaturated_timer (k : Roller) : (countSaturated k s).timer = s.timer := rfl
@[simp] theorem countSaturated_link (k : Roller) : (countSaturated k s).link = s.link := rfl
@[simp] theorem countSaturated_notice (k : Roller) : (countSaturated k s).notice = s.notice := rfl
@[simp] theorem countSaturated_mail (k : Roller) : (countSaturated k s).mail = s.mail := rfl
@[simp] theorem countSaturated_pending (k : Roller) : (countSaturated k s).pending = s.pending := rfl

/-! ## `countIllegal` -/

@[simp] theorem countIllegal_shaft (k : Roller) : (countIllegal k s).shaft = s.shaft := rfl
@[simp] theorem countIllegal_channel (k : Roller) : (countIllegal k s).channel = s.channel := rfl
@[simp] theorem countIllegal_target (k : Roller) : (countIllegal k s).target = s.target := rfl
@[simp] theorem countIllegal_coupling (k : Roller) : (countIllegal k s).coupling = s.coupling := rfl
@[simp] theorem countIllegal_profile (k : Roller) : (countIllegal k s).profile = s.profile := rfl
@[simp] theorem countIllegal_line (k : Roller) : (countIllegal k s).line = s.line := rfl
@[simp] theorem countIllegal_timer (k : Roller) : (countIllegal k s).timer = s.timer := rfl
@[simp] theorem countIllegal_link (k : Roller) : (countIllegal k s).link = s.link := rfl
@[simp] theorem countIllegal_notice (k : Roller) : (countIllegal k s).notice = s.notice := rfl
@[simp] theorem countIllegal_mail (k : Roller) : (countIllegal k s).mail = s.mail := rfl
@[simp] theorem countIllegal_pending (k : Roller) : (countIllegal k s).pending = s.pending := rfl

/-! ## `countFault` -/

@[simp] theorem countFault_shaft (k : Roller) (kind : FaultKind) :
    (countFault k kind s).shaft = s.shaft := rfl
@[simp] theorem countFault_channel (k : Roller) (kind : FaultKind) :
    (countFault k kind s).channel = s.channel := rfl
@[simp] theorem countFault_target (k : Roller) (kind : FaultKind) :
    (countFault k kind s).target = s.target := rfl
@[simp] theorem countFault_coupling (k : Roller) (kind : FaultKind) :
    (countFault k kind s).coupling = s.coupling := rfl
@[simp] theorem countFault_profile (k : Roller) (kind : FaultKind) :
    (countFault k kind s).profile = s.profile := rfl
@[simp] theorem countFault_line (k : Roller) (kind : FaultKind) : (countFault k kind s).line = s.line := rfl
@[simp] theorem countFault_timer (k : Roller) (kind : FaultKind) :
    (countFault k kind s).timer = s.timer := rfl
@[simp] theorem countFault_link (k : Roller) (kind : FaultKind) : (countFault k kind s).link = s.link := rfl
@[simp] theorem countFault_notice (k : Roller) (kind : FaultKind) :
    (countFault k kind s).notice = s.notice := rfl
@[simp] theorem countFault_mail (k : Roller) (kind : FaultKind) : (countFault k kind s).mail = s.mail := rfl
@[simp] theorem countFault_pending (k : Roller) (kind : FaultKind) :
    (countFault k kind s).pending = s.pending := rfl

/-! ## `sendChange` -/

@[simp] theorem sendChange_shaft (k : Roller) (c : Change) : (sendChange k c s).shaft = s.shaft := rfl
@[simp] theorem sendChange_channel (k : Roller) (c : Change) : (sendChange k c s).channel = s.channel := rfl
@[simp] theorem sendChange_target (k : Roller) (c : Change) : (sendChange k c s).target = s.target := rfl
@[simp] theorem sendChange_coupling (k : Roller) (c : Change) :
    (sendChange k c s).coupling = s.coupling := rfl
@[simp] theorem sendChange_profile (k : Roller) (c : Change) : (sendChange k c s).profile = s.profile := rfl
@[simp] theorem sendChange_line (k : Roller) (c : Change) : (sendChange k c s).line = s.line := rfl
@[simp] theorem sendChange_timer (k : Roller) (c : Change) : (sendChange k c s).timer = s.timer := rfl
@[simp] theorem sendChange_link (k : Roller) (c : Change) : (sendChange k c s).link = s.link := rfl
@[simp] theorem sendChange_notice (k : Roller) (c : Change) : (sendChange k c s).notice = s.notice := rfl
@[simp] theorem sendChange_store (k : Roller) (c : Change) : (sendChange k c s).store = s.store := rfl
@[simp] theorem sendChange_pending (k : Roller) (c : Change) : (sendChange k c s).pending = s.pending := rfl

/-! ## `sendRunPermit` -/

@[simp] theorem sendRunPermit_shaft (e : RunPermitEvent) : (sendRunPermit e s).shaft = s.shaft := rfl
@[simp] theorem sendRunPermit_channel (e : RunPermitEvent) : (sendRunPermit e s).channel = s.channel := rfl
@[simp] theorem sendRunPermit_target (e : RunPermitEvent) : (sendRunPermit e s).target = s.target := rfl
@[simp] theorem sendRunPermit_coupling (e : RunPermitEvent) : (sendRunPermit e s).coupling = s.coupling := rfl
@[simp] theorem sendRunPermit_profile (e : RunPermitEvent) : (sendRunPermit e s).profile = s.profile := rfl
@[simp] theorem sendRunPermit_line (e : RunPermitEvent) : (sendRunPermit e s).line = s.line := rfl
@[simp] theorem sendRunPermit_timer (e : RunPermitEvent) : (sendRunPermit e s).timer = s.timer := rfl
@[simp] theorem sendRunPermit_link (e : RunPermitEvent) : (sendRunPermit e s).link = s.link := rfl
@[simp] theorem sendRunPermit_notice (e : RunPermitEvent) : (sendRunPermit e s).notice = s.notice := rfl
@[simp] theorem sendRunPermit_store (e : RunPermitEvent) : (sendRunPermit e s).store = s.store := rfl
@[simp] theorem sendRunPermit_pending (e : RunPermitEvent) : (sendRunPermit e s).pending = s.pending := rfl

/-! ## `sendRollerPermit` -/

@[simp] theorem sendRollerPermit_shaft (k : Roller) (e : RollerPermitEvent) :
    (sendRollerPermit k e s).shaft = s.shaft := rfl
@[simp] theorem sendRollerPermit_channel (k : Roller) (e : RollerPermitEvent) :
    (sendRollerPermit k e s).channel = s.channel := rfl
@[simp] theorem sendRollerPermit_target (k : Roller) (e : RollerPermitEvent) :
    (sendRollerPermit k e s).target = s.target := rfl
@[simp] theorem sendRollerPermit_coupling (k : Roller) (e : RollerPermitEvent) :
    (sendRollerPermit k e s).coupling = s.coupling := rfl
@[simp] theorem sendRollerPermit_profile (k : Roller) (e : RollerPermitEvent) :
    (sendRollerPermit k e s).profile = s.profile := rfl
@[simp] theorem sendRollerPermit_line (k : Roller) (e : RollerPermitEvent) :
    (sendRollerPermit k e s).line = s.line := rfl
@[simp] theorem sendRollerPermit_timer (k : Roller) (e : RollerPermitEvent) :
    (sendRollerPermit k e s).timer = s.timer := rfl
@[simp] theorem sendRollerPermit_link (k : Roller) (e : RollerPermitEvent) :
    (sendRollerPermit k e s).link = s.link := rfl
@[simp] theorem sendRollerPermit_notice (k : Roller) (e : RollerPermitEvent) :
    (sendRollerPermit k e s).notice = s.notice := rfl
@[simp] theorem sendRollerPermit_store (k : Roller) (e : RollerPermitEvent) :
    (sendRollerPermit k e s).store = s.store := rfl
@[simp] theorem sendRollerPermit_pending (k : Roller) (e : RollerPermitEvent) :
    (sendRollerPermit k e s).pending = s.pending := rfl

/-! ## `sendIndexEdge` -/

@[simp] theorem sendIndexEdge_shaft (k : Roller) : (sendIndexEdge k s).shaft = s.shaft := rfl
@[simp] theorem sendIndexEdge_channel (k : Roller) : (sendIndexEdge k s).channel = s.channel := rfl
@[simp] theorem sendIndexEdge_target (k : Roller) : (sendIndexEdge k s).target = s.target := rfl
@[simp] theorem sendIndexEdge_coupling (k : Roller) : (sendIndexEdge k s).coupling = s.coupling := rfl
@[simp] theorem sendIndexEdge_profile (k : Roller) : (sendIndexEdge k s).profile = s.profile := rfl
@[simp] theorem sendIndexEdge_line (k : Roller) : (sendIndexEdge k s).line = s.line := rfl
@[simp] theorem sendIndexEdge_timer (k : Roller) : (sendIndexEdge k s).timer = s.timer := rfl
@[simp] theorem sendIndexEdge_link (k : Roller) : (sendIndexEdge k s).link = s.link := rfl
@[simp] theorem sendIndexEdge_notice (k : Roller) : (sendIndexEdge k s).notice = s.notice := rfl
@[simp] theorem sendIndexEdge_store (k : Roller) : (sendIndexEdge k s).store = s.store := rfl
@[simp] theorem sendIndexEdge_pending (k : Roller) : (sendIndexEdge k s).pending = s.pending := rfl

/-! ## `sendMarkEdge` -/

@[simp] theorem sendMarkEdge_shaft : (sendMarkEdge s).shaft = s.shaft := rfl
@[simp] theorem sendMarkEdge_channel : (sendMarkEdge s).channel = s.channel := rfl
@[simp] theorem sendMarkEdge_target : (sendMarkEdge s).target = s.target := rfl
@[simp] theorem sendMarkEdge_coupling : (sendMarkEdge s).coupling = s.coupling := rfl
@[simp] theorem sendMarkEdge_profile : (sendMarkEdge s).profile = s.profile := rfl
@[simp] theorem sendMarkEdge_line : (sendMarkEdge s).line = s.line := rfl
@[simp] theorem sendMarkEdge_timer : (sendMarkEdge s).timer = s.timer := rfl
@[simp] theorem sendMarkEdge_link : (sendMarkEdge s).link = s.link := rfl
@[simp] theorem sendMarkEdge_notice : (sendMarkEdge s).notice = s.notice := rfl
@[simp] theorem sendMarkEdge_store : (sendMarkEdge s).store = s.store := rfl
@[simp] theorem sendMarkEdge_mail :
    (sendMarkEdge s).mail = { s.mail with markEdge := s.mail.markEdge + 1 } := rfl
@[simp] theorem sendMarkEdge_pending : (sendMarkEdge s).pending = s.pending := rfl

/-! ## `sendChannelMessage` -/

@[simp] theorem sendChannelMessage_shaft (k : Roller) (x : ChannelMessage) :
    (sendChannelMessage k x s).shaft = s.shaft := rfl
@[simp] theorem sendChannelMessage_channel (k : Roller) (x : ChannelMessage) :
    (sendChannelMessage k x s).channel = s.channel := rfl
@[simp] theorem sendChannelMessage_target (k : Roller) (x : ChannelMessage) :
    (sendChannelMessage k x s).target = s.target := rfl
@[simp] theorem sendChannelMessage_coupling (k : Roller) (x : ChannelMessage) :
    (sendChannelMessage k x s).coupling = s.coupling := rfl
@[simp] theorem sendChannelMessage_profile (k : Roller) (x : ChannelMessage) :
    (sendChannelMessage k x s).profile = s.profile := rfl
@[simp] theorem sendChannelMessage_line (k : Roller) (x : ChannelMessage) :
    (sendChannelMessage k x s).line = s.line := rfl
@[simp] theorem sendChannelMessage_timer (k : Roller) (x : ChannelMessage) :
    (sendChannelMessage k x s).timer = s.timer := rfl
@[simp] theorem sendChannelMessage_link (k : Roller) (x : ChannelMessage) :
    (sendChannelMessage k x s).link = s.link := rfl
@[simp] theorem sendChannelMessage_notice (k : Roller) (x : ChannelMessage) :
    (sendChannelMessage k x s).notice = s.notice := rfl
@[simp] theorem sendChannelMessage_store (k : Roller) (x : ChannelMessage) :
    (sendChannelMessage k x s).store = s.store := rfl
@[simp] theorem sendChannelMessage_pending (k : Roller) (x : ChannelMessage) :
    (sendChannelMessage k x s).pending = s.pending := rfl

/-! ## `sendFault` -/

@[simp] theorem sendFault_shaft (k : Roller) (kind : FaultKind) : (sendFault k kind s).shaft = s.shaft := rfl
@[simp] theorem sendFault_channel (k : Roller) (kind : FaultKind) :
    (sendFault k kind s).channel = s.channel := rfl
@[simp] theorem sendFault_target (k : Roller) (kind : FaultKind) :
    (sendFault k kind s).target = s.target := rfl
@[simp] theorem sendFault_coupling (k : Roller) (kind : FaultKind) :
    (sendFault k kind s).coupling = s.coupling := rfl
@[simp] theorem sendFault_profile (k : Roller) (kind : FaultKind) :
    (sendFault k kind s).profile = s.profile := rfl
@[simp] theorem sendFault_line (k : Roller) (kind : FaultKind) : (sendFault k kind s).line = s.line := rfl
@[simp] theorem sendFault_timer (k : Roller) (kind : FaultKind) : (sendFault k kind s).timer = s.timer := rfl
@[simp] theorem sendFault_link (k : Roller) (kind : FaultKind) : (sendFault k kind s).link = s.link := rfl
@[simp] theorem sendFault_notice (k : Roller) (kind : FaultKind) :
    (sendFault k kind s).notice = s.notice := rfl
@[simp] theorem sendFault_store (k : Roller) (kind : FaultKind) : (sendFault k kind s).store = s.store := rfl
@[simp] theorem sendFault_pending (k : Roller) (kind : FaultKind) :
    (sendFault k kind s).pending = s.pending := rfl

/-! ## `sendSkewFault` -/

@[simp] theorem sendSkewFault_shaft : (sendSkewFault s).shaft = s.shaft := rfl
@[simp] theorem sendSkewFault_channel : (sendSkewFault s).channel = s.channel := rfl
@[simp] theorem sendSkewFault_target : (sendSkewFault s).target = s.target := rfl
@[simp] theorem sendSkewFault_coupling : (sendSkewFault s).coupling = s.coupling := rfl
@[simp] theorem sendSkewFault_profile : (sendSkewFault s).profile = s.profile := rfl
@[simp] theorem sendSkewFault_line : (sendSkewFault s).line = s.line := rfl
@[simp] theorem sendSkewFault_timer : (sendSkewFault s).timer = s.timer := rfl
@[simp] theorem sendSkewFault_link : (sendSkewFault s).link = s.link := rfl
@[simp] theorem sendSkewFault_notice : (sendSkewFault s).notice = s.notice := rfl
@[simp] theorem sendSkewFault_store : (sendSkewFault s).store = s.store := rfl
@[simp] theorem sendSkewFault_pending : (sendSkewFault s).pending = s.pending := rfl

/-! ## `sendToShaft` -/

@[simp] theorem sendToShaft_shaft (x : ProfileHandoff) : (sendToShaft x s).shaft = s.shaft := rfl
@[simp] theorem sendToShaft_channel (x : ProfileHandoff) : (sendToShaft x s).channel = s.channel := rfl
@[simp] theorem sendToShaft_target (x : ProfileHandoff) : (sendToShaft x s).target = s.target := rfl
@[simp] theorem sendToShaft_coupling (x : ProfileHandoff) : (sendToShaft x s).coupling = s.coupling := rfl
@[simp] theorem sendToShaft_profile (x : ProfileHandoff) : (sendToShaft x s).profile = s.profile := rfl
@[simp] theorem sendToShaft_line (x : ProfileHandoff) : (sendToShaft x s).line = s.line := rfl
@[simp] theorem sendToShaft_timer (x : ProfileHandoff) : (sendToShaft x s).timer = s.timer := rfl
@[simp] theorem sendToShaft_link (x : ProfileHandoff) : (sendToShaft x s).link = s.link := rfl
@[simp] theorem sendToShaft_notice (x : ProfileHandoff) : (sendToShaft x s).notice = s.notice := rfl
@[simp] theorem sendToShaft_store (x : ProfileHandoff) : (sendToShaft x s).store = s.store := rfl
@[simp] theorem sendToShaft_pending (x : ProfileHandoff) : (sendToShaft x s).pending = s.pending := rfl

/-! ## `sendAbandonment` -/

@[simp] theorem sendAbandonment_shaft (c : AbandonCause) : (sendAbandonment c s).shaft = s.shaft := rfl
@[simp] theorem sendAbandonment_channel (c : AbandonCause) : (sendAbandonment c s).channel = s.channel := rfl
@[simp] theorem sendAbandonment_target (c : AbandonCause) : (sendAbandonment c s).target = s.target := rfl
@[simp] theorem sendAbandonment_coupling (c : AbandonCause) :
    (sendAbandonment c s).coupling = s.coupling := rfl
@[simp] theorem sendAbandonment_profile (c : AbandonCause) : (sendAbandonment c s).profile = s.profile := rfl
@[simp] theorem sendAbandonment_line (c : AbandonCause) : (sendAbandonment c s).line = s.line := rfl
@[simp] theorem sendAbandonment_timer (c : AbandonCause) : (sendAbandonment c s).timer = s.timer := rfl
@[simp] theorem sendAbandonment_link (c : AbandonCause) : (sendAbandonment c s).link = s.link := rfl
@[simp] theorem sendAbandonment_notice (c : AbandonCause) : (sendAbandonment c s).notice = s.notice := rfl
@[simp] theorem sendAbandonment_store (c : AbandonCause) : (sendAbandonment c s).store = s.store := rfl
@[simp] theorem sendAbandonment_pending (c : AbandonCause) : (sendAbandonment c s).pending = s.pending := rfl

/-! ## `sendTimeMark` -/

@[simp] theorem sendTimeMark_shaft (x : BitVec 32) : (sendTimeMark x s).shaft = s.shaft := rfl
@[simp] theorem sendTimeMark_channel (x : BitVec 32) : (sendTimeMark x s).channel = s.channel := rfl
@[simp] theorem sendTimeMark_target (x : BitVec 32) : (sendTimeMark x s).target = s.target := rfl
@[simp] theorem sendTimeMark_coupling (x : BitVec 32) : (sendTimeMark x s).coupling = s.coupling := rfl
@[simp] theorem sendTimeMark_profile (x : BitVec 32) : (sendTimeMark x s).profile = s.profile := rfl
@[simp] theorem sendTimeMark_line (x : BitVec 32) : (sendTimeMark x s).line = s.line := rfl
@[simp] theorem sendTimeMark_timer (x : BitVec 32) : (sendTimeMark x s).timer = s.timer := rfl
@[simp] theorem sendTimeMark_link (x : BitVec 32) : (sendTimeMark x s).link = s.link := rfl
@[simp] theorem sendTimeMark_notice (x : BitVec 32) : (sendTimeMark x s).notice = s.notice := rfl
@[simp] theorem sendTimeMark_store (x : BitVec 32) : (sendTimeMark x s).store = s.store := rfl
@[simp] theorem sendTimeMark_pending (x : BitVec 32) : (sendTimeMark x s).pending = s.pending := rfl

/-! ## `sendMarkOut` -/

@[simp] theorem sendMarkOut_shaft (v : Bool) : (sendMarkOut v s).shaft = s.shaft := rfl
@[simp] theorem sendMarkOut_channel (v : Bool) : (sendMarkOut v s).channel = s.channel := rfl
@[simp] theorem sendMarkOut_target (v : Bool) : (sendMarkOut v s).target = s.target := rfl
@[simp] theorem sendMarkOut_coupling (v : Bool) : (sendMarkOut v s).coupling = s.coupling := rfl
@[simp] theorem sendMarkOut_profile (v : Bool) : (sendMarkOut v s).profile = s.profile := rfl
@[simp] theorem sendMarkOut_line (v : Bool) : (sendMarkOut v s).line = s.line := rfl
@[simp] theorem sendMarkOut_timer (v : Bool) : (sendMarkOut v s).timer = s.timer := rfl
@[simp] theorem sendMarkOut_link (v : Bool) : (sendMarkOut v s).link = s.link := rfl
@[simp] theorem sendMarkOut_notice (v : Bool) : (sendMarkOut v s).notice = s.notice := rfl
@[simp] theorem sendMarkOut_store (v : Bool) : (sendMarkOut v s).store = s.store := rfl
@[simp] theorem sendMarkOut_pending (v : Bool) : (sendMarkOut v s).pending = s.pending := rfl

/-! ## `sendRecord` -/

@[simp] theorem sendRecord_shaft (r : RefRecord) : (sendRecord r s).shaft = s.shaft := rfl
@[simp] theorem sendRecord_channel (r : RefRecord) : (sendRecord r s).channel = s.channel := rfl
@[simp] theorem sendRecord_target (r : RefRecord) : (sendRecord r s).target = s.target := rfl
@[simp] theorem sendRecord_coupling (r : RefRecord) : (sendRecord r s).coupling = s.coupling := rfl
@[simp] theorem sendRecord_profile (r : RefRecord) : (sendRecord r s).profile = s.profile := rfl
@[simp] theorem sendRecord_line (r : RefRecord) : (sendRecord r s).line = s.line := rfl
@[simp] theorem sendRecord_timer (r : RefRecord) : (sendRecord r s).timer = s.timer := rfl
@[simp] theorem sendRecord_link (r : RefRecord) : (sendRecord r s).link = s.link := rfl
@[simp] theorem sendRecord_notice (r : RefRecord) : (sendRecord r s).notice = s.notice := rfl
@[simp] theorem sendRecord_store (r : RefRecord) : (sendRecord r s).store = s.store := rfl
@[simp] theorem sendRecord_pending (r : RefRecord) : (sendRecord r s).pending = s.pending := rfl

/-! ## `sendReport` -/

@[simp] theorem sendReport_shaft (x : Sender) (r : Report) : (sendReport x r s).shaft = s.shaft := rfl
@[simp] theorem sendReport_channel (x : Sender) (r : Report) : (sendReport x r s).channel = s.channel := rfl
@[simp] theorem sendReport_target (x : Sender) (r : Report) : (sendReport x r s).target = s.target := rfl
@[simp] theorem sendReport_coupling (x : Sender) (r : Report) :
    (sendReport x r s).coupling = s.coupling := rfl
@[simp] theorem sendReport_profile (x : Sender) (r : Report) : (sendReport x r s).profile = s.profile := rfl
@[simp] theorem sendReport_line (x : Sender) (r : Report) : (sendReport x r s).line = s.line := rfl
@[simp] theorem sendReport_timer (x : Sender) (r : Report) : (sendReport x r s).timer = s.timer := rfl
@[simp] theorem sendReport_link (x : Sender) (r : Report) : (sendReport x r s).link = s.link := rfl
@[simp] theorem sendReport_notice (x : Sender) (r : Report) : (sendReport x r s).notice = s.notice := rfl
@[simp] theorem sendReport_store (x : Sender) (r : Report) : (sendReport x r s).store = s.store := rfl
@[simp] theorem sendReport_pending (x : Sender) (r : Report) : (sendReport x r s).pending = s.pending := rfl

/-! ## `reportStamped` -/

@[simp] theorem reportStamped_shaft (x : Sender) (b : NoticeBody) :
    (reportStamped x b s).shaft = s.shaft := rfl
@[simp] theorem reportStamped_channel (x : Sender) (b : NoticeBody) :
    (reportStamped x b s).channel = s.channel := rfl
@[simp] theorem reportStamped_target (x : Sender) (b : NoticeBody) :
    (reportStamped x b s).target = s.target := rfl
@[simp] theorem reportStamped_coupling (x : Sender) (b : NoticeBody) :
    (reportStamped x b s).coupling = s.coupling := rfl
@[simp] theorem reportStamped_profile (x : Sender) (b : NoticeBody) :
    (reportStamped x b s).profile = s.profile := rfl
@[simp] theorem reportStamped_line (x : Sender) (b : NoticeBody) : (reportStamped x b s).line = s.line := rfl
@[simp] theorem reportStamped_timer (x : Sender) (b : NoticeBody) :
    (reportStamped x b s).timer = s.timer := rfl
@[simp] theorem reportStamped_link (x : Sender) (b : NoticeBody) : (reportStamped x b s).link = s.link := rfl
@[simp] theorem reportStamped_notice (x : Sender) (b : NoticeBody) :
    (reportStamped x b s).notice = s.notice := rfl
@[simp] theorem reportStamped_store (x : Sender) (b : NoticeBody) :
    (reportStamped x b s).store = s.store := rfl
@[simp] theorem reportStamped_pending (x : Sender) (b : NoticeBody) :
    (reportStamped x b s).pending = s.pending := rfl

/-! ## `reportPlain` -/

@[simp] theorem reportPlain_shaft (x : Sender) (b : NoticeBody) : (reportPlain x b s).shaft = s.shaft := rfl
@[simp] theorem reportPlain_channel (x : Sender) (b : NoticeBody) :
    (reportPlain x b s).channel = s.channel := rfl
@[simp] theorem reportPlain_target (x : Sender) (b : NoticeBody) :
    (reportPlain x b s).target = s.target := rfl
@[simp] theorem reportPlain_coupling (x : Sender) (b : NoticeBody) :
    (reportPlain x b s).coupling = s.coupling := rfl
@[simp] theorem reportPlain_profile (x : Sender) (b : NoticeBody) :
    (reportPlain x b s).profile = s.profile := rfl
@[simp] theorem reportPlain_line (x : Sender) (b : NoticeBody) : (reportPlain x b s).line = s.line := rfl
@[simp] theorem reportPlain_timer (x : Sender) (b : NoticeBody) : (reportPlain x b s).timer = s.timer := rfl
@[simp] theorem reportPlain_link (x : Sender) (b : NoticeBody) : (reportPlain x b s).link = s.link := rfl
@[simp] theorem reportPlain_notice (x : Sender) (b : NoticeBody) :
    (reportPlain x b s).notice = s.notice := rfl
@[simp] theorem reportPlain_store (x : Sender) (b : NoticeBody) : (reportPlain x b s).store = s.store := rfl
@[simp] theorem reportPlain_pending (x : Sender) (b : NoticeBody) :
    (reportPlain x b s).pending = s.pending := rfl

/-! ## `rxTo` -/

@[simp] theorem rxTo_shaft (rx : RxState) : (rxTo rx s).shaft = s.shaft := rfl
@[simp] theorem rxTo_channel (rx : RxState) : (rxTo rx s).channel = s.channel := rfl
@[simp] theorem rxTo_target (rx : RxState) : (rxTo rx s).target = s.target := rfl
@[simp] theorem rxTo_coupling (rx : RxState) : (rxTo rx s).coupling = s.coupling := rfl
@[simp] theorem rxTo_profile (rx : RxState) : (rxTo rx s).profile = s.profile := rfl
@[simp] theorem rxTo_line (rx : RxState) : (rxTo rx s).line = s.line := rfl
@[simp] theorem rxTo_timer (rx : RxState) : (rxTo rx s).timer = s.timer := rfl
@[simp] theorem rxTo_notice (rx : RxState) : (rxTo rx s).notice = s.notice := rfl
@[simp] theorem rxTo_store (rx : RxState) : (rxTo rx s).store = s.store := rfl
@[simp] theorem rxTo_mail (rx : RxState) : (rxTo rx s).mail = s.mail := rfl
@[simp] theorem rxTo_pending (rx : RxState) : (rxTo rx s).pending = s.pending := rfl

/-! ## `rxOn` -/

@[simp] theorem rxOn_shaft (rx : RxState) (f : RxFrame) : (rxOn rx f s).shaft = s.shaft := rfl
@[simp] theorem rxOn_channel (rx : RxState) (f : RxFrame) : (rxOn rx f s).channel = s.channel := rfl
@[simp] theorem rxOn_target (rx : RxState) (f : RxFrame) : (rxOn rx f s).target = s.target := rfl
@[simp] theorem rxOn_coupling (rx : RxState) (f : RxFrame) : (rxOn rx f s).coupling = s.coupling := rfl
@[simp] theorem rxOn_profile (rx : RxState) (f : RxFrame) : (rxOn rx f s).profile = s.profile := rfl
@[simp] theorem rxOn_line (rx : RxState) (f : RxFrame) : (rxOn rx f s).line = s.line := rfl
@[simp] theorem rxOn_timer (rx : RxState) (f : RxFrame) : (rxOn rx f s).timer = s.timer := rfl
@[simp] theorem rxOn_notice (rx : RxState) (f : RxFrame) : (rxOn rx f s).notice = s.notice := rfl
@[simp] theorem rxOn_store (rx : RxState) (f : RxFrame) : (rxOn rx f s).store = s.store := rfl
@[simp] theorem rxOn_mail (rx : RxState) (f : RxFrame) : (rxOn rx f s).mail = s.mail := rfl
@[simp] theorem rxOn_pending (rx : RxState) (f : RxFrame) : (rxOn rx f s).pending = s.pending := rfl

/-! ## `discardTo` -/

@[simp] theorem discardTo_shaft (rx : RxState) : (discardTo rx s).shaft = s.shaft := rfl
@[simp] theorem discardTo_channel (rx : RxState) : (discardTo rx s).channel = s.channel := rfl
@[simp] theorem discardTo_target (rx : RxState) : (discardTo rx s).target = s.target := rfl
@[simp] theorem discardTo_coupling (rx : RxState) : (discardTo rx s).coupling = s.coupling := rfl
@[simp] theorem discardTo_profile (rx : RxState) : (discardTo rx s).profile = s.profile := rfl
@[simp] theorem discardTo_line (rx : RxState) : (discardTo rx s).line = s.line := rfl
@[simp] theorem discardTo_timer (rx : RxState) : (discardTo rx s).timer = s.timer := rfl
@[simp] theorem discardTo_notice (rx : RxState) : (discardTo rx s).notice = s.notice := rfl
@[simp] theorem discardTo_mail (rx : RxState) : (discardTo rx s).mail = s.mail := rfl
@[simp] theorem discardTo_pending (rx : RxState) : (discardTo rx s).pending = s.pending := rfl

/-! ## `startReply` -/

@[simp] theorem startReply_shaft (r : Reply) (act : Option Deferred) :
    (startReply r act s).shaft = s.shaft := rfl
@[simp] theorem startReply_channel (r : Reply) (act : Option Deferred) :
    (startReply r act s).channel = s.channel := rfl
@[simp] theorem startReply_target (r : Reply) (act : Option Deferred) :
    (startReply r act s).target = s.target := rfl
@[simp] theorem startReply_coupling (r : Reply) (act : Option Deferred) :
    (startReply r act s).coupling = s.coupling := rfl
@[simp] theorem startReply_profile (r : Reply) (act : Option Deferred) :
    (startReply r act s).profile = s.profile := rfl
@[simp] theorem startReply_line (r : Reply) (act : Option Deferred) :
    (startReply r act s).line = s.line := rfl
@[simp] theorem startReply_timer (r : Reply) (act : Option Deferred) :
    (startReply r act s).timer = s.timer := rfl
@[simp] theorem startReply_notice (r : Reply) (act : Option Deferred) :
    (startReply r act s).notice = s.notice := rfl
@[simp] theorem startReply_store (r : Reply) (act : Option Deferred) :
    (startReply r act s).store = s.store := rfl
@[simp] theorem startReply_mail (r : Reply) (act : Option Deferred) :
    (startReply r act s).mail = s.mail := rfl
@[simp] theorem startReply_pending (r : Reply) (act : Option Deferred) :
    (startReply r act s).pending = s.pending := rfl

end Machine

end Sys2Proof
end

