-- ==== Sys2Proof/Laws/Link.lean ====
section
/-! SUPPORT. What the message link makes of a whole command frame, said once: the provers of a command's result
cite these and unfold only the command. -/

namespace Sys2Proof.Machine

theorem cmdKind_lt (c : Cmd) : cmdKind c < 128 := by
  cases c <;> simp [cmdKind]

/-- No command kind is a reply kind (R156). -/
theorem isReplyKind_cmdKind (c : Cmd) : isReplyKind (byte (cmdKind c)) = false := by
  cases c <;> rfl

/-- A frame at the node address in HUNT: the owning block's answer becomes the reply (R157 to R159). -/
theorem deliver_of_hears {h : Head} {s : State} (hh : hears h s) (c : Cmd) (accepts : Bool) :
    deliver h c accepts s =
      match runChecked accepts (heard s) c with
      | .refused code => refusedWith h (byte (cmdKind c)) code s
      | .taken t cls fields act =>
        startReply ⟨byte s.link.settings.node, byte (cmdKind c) + 0x80#8, h.tag, byte cls :: fields⟩ act t := by
  obtain ⟨hr, ha⟩ := hh
  have e : deliver h c accepts s = answer h (byte (cmdKind c)) accepts (.ok c) (heard s) := by
    unfold deliver lineIdleThen
    rw [hr]
    simp only [acceptFrame]
    rw [if_pos (by simpa [rxTo, onLink] using ha), if_neg (by simp [isReplyKind_cmdKind])]
    rfl
  rw [e]
  rfl

/-- A command taken leaves the reply waiting. -/
theorem deliver_taken {h : Head} {s t : State} (hh : hears h s) {c : Cmd} {accepts : Bool} {cls : Nat}
    {fields : List Byte} {act : Option Deferred} (hl : lengthOk c = true)
    (ht : runCmd accepts (heard s) c = .taken t cls fields act) (hn : t.link.settings = s.link.settings) :
    deliver h c accepts s = replied h (byte (cmdKind c) + 0x80#8) (byte cls :: fields) act t := by
  rw [deliver_of_hears hh, runChecked, if_pos hl, ht]
  simp [replied, hn]

/-- A command refused is counted, and the refusal waits as the reply. -/
theorem deliver_refused {h : Head} {s : State} (hh : hears h s) {c : Cmd} {accepts : Bool} {code : RefusalCode}
    (hl : lengthOk c = true) (ht : runCmd accepts (heard s) c = .refused code) :
    deliver h c accepts s = refusedWith h (byte (cmdKind c)) code s := by
  rw [deliver_of_hears hh, runChecked, if_pos hl, ht]

variable (s : State)

@[simp] theorem heard_shaft : (heard s).shaft = s.shaft := rfl
@[simp] theorem heard_channel : (heard s).channel = s.channel := rfl
@[simp] theorem heard_target : (heard s).target = s.target := rfl
@[simp] theorem heard_coupling : (heard s).coupling = s.coupling := rfl
@[simp] theorem heard_profile : (heard s).profile = s.profile := rfl
@[simp] theorem heard_line : (heard s).line = s.line := rfl
@[simp] theorem heard_timer : (heard s).timer = s.timer := rfl
@[simp] theorem heard_notice : (heard s).notice = s.notice := rfl
@[simp] theorem heard_mail : (heard s).mail = s.mail := rfl
@[simp] theorem heard_pending : (heard s).pending = s.pending := rfl
@[simp] theorem heard_settings : (heard s).link.settings = s.link.settings := rfl
@[simp] theorem heard_activity : (heard s).store.activity = s.store.activity := rfl

/-! ## The hand-over and the receiver (R165, R176) -/

theorem handedOver_iff : handedOver s = true ↔ s.mail.handover = .none := by simp [handedOver]

@[simp] theorem heard_handedOver : handedOver (heard s) = handedOver s := rfl
@[simp] theorem rxTo_handedOver (rx : RxState) : handedOver (rxTo rx s) = handedOver s := rfl
@[simp] theorem discardTo_handedOver (rx : RxState) : handedOver (discardTo rx s) = handedOver s := rfl

@[simp] theorem idleCounts_handedOver : handedOver (idleCounts s) = handedOver s := rfl
@[simp] theorem idleCounts_rx : (idleCounts s).link.rx = s.link.rx := rfl
@[simp] theorem idleCounts_fromOff : (idleCounts s).link.fromOff = false := rfl
@[simp] theorem rxTo_fromOff (rx : RxState) : (rxTo rx s).link.fromOff = s.link.fromOff := rfl

/-- Where the mark is clear, a byte in SKIP changes nothing. -/
theorem idleCounts_eq_self (h : s.link.fromOff = false) : idleCounts s = s := by
  unfold idleCounts onLink
  rw [← h]

/-- A byte ignored in SKIP clears at most the mark that SKIP was entered from OFF, with every section taken (R165). -/
theorem skipIgnores_cases :
    (s.mail.handover ≠ .none ∧ skipIgnores s = s) ∨ (s.mail.handover = .none ∧ skipIgnores s = idleCounts s) := by
  unfold skipIgnores
  split
  · next h => exact .inr ⟨(handedOver_iff s).mp h, rfl⟩
  · next h => exact .inl ⟨fun e => h ((handedOver_iff s).mpr e), rfl⟩

/-- An idle line changes nothing but the receiver, and that only from SKIP to HUNT with every section taken. -/
theorem idlePasses_cases :
    idlePasses s = s ∨
      (s.link.rx = .skip ∧ s.mail.handover = .none ∧ idlePasses s = rxTo .hunt (idleCounts s)) := by
  unfold idlePasses
  split
  · next h => exact .inr ⟨h.1, (handedOver_iff s).mp h.2, rfl⟩
  · exact .inl rfl

/-- What the gap before a byte does: nothing, a frame discarded, or SKIP left, with every section taken and idle time
that began in SKIP (R154, R165). -/
theorem gapTest_cases (gapUs : Nat) :
    gapTest gapUs s = s ∨ (gapLimitUs < gapUs ∧ inFrame s.link.rx = true ∧ gapTest gapUs s = discardTo .hunt s) ∨
      (gapLimitUs < gapUs ∧ s.link.rx = .skip ∧ s.mail.handover = .none ∧ s.link.fromOff = false ∧
        gapTest gapUs s = rxTo .hunt s) := by
  unfold gapTest
  split
  · exact .inl rfl
  · next h =>
    split
    · next h' => exact .inr (.inl ⟨Nat.lt_of_not_le h, h', rfl⟩)
    · split
      · next h' =>
        exact .inr (.inr ⟨Nat.lt_of_not_le h, h'.1, (handedOver_iff s).mp h'.2.1, h'.2.2, rfl⟩)
      · exact .inl rfl

/-- The start test changes nothing, or starts an ARMED run with enough points, stamped with the time of the mark if it
is made at one and with the published time otherwise (R106, R107, R148). -/
theorem startTest_cases (byLoad : Bool) (mark : Option (BitVec 32)) :
    startTest byLoad mark s = s ∨
      (s.profile.run = .armed ∧ conditionMet s.profile mark.isSome = true ∧ enoughPoints s.profile = true ∧
        startTest byLoad mark s = startRun byLoad (mark.getD s.timer.time) s) := by
  unfold startTest
  split
  · next h => exact .inr ⟨h.1, h.2.1, h.2.2, rfl⟩
  · exact .inl rfl

end Sys2Proof.Machine
end

