-- ==== Sys2Proof/Laws/Memory.lean ====
section
/-! SUPPORT. The settings memory: reads after writes, and the canonical form kept by every write. -/

namespace Sys2Proof.Machine

theorem Memory.wfAbove_mono {m : List Host.Cell} {lo hi : Nat} (h : lo ≤ hi)
    (w : Memory.wfAbove (some hi) m = true) : Memory.wfAbove (some lo) m = true := by
  cases m with
  | nil => rfl
  | cons c m =>
    obtain ⟨x, b⟩ := c
    simp only [Memory.wfAbove, Bool.and_eq_true, decide_eq_true_eq] at w ⊢
    exact ⟨⟨by omega, w.1.2⟩, w.2⟩

theorem Memory.wfAbove_none {m : List Host.Cell} {lo : Nat} (w : Memory.wfAbove (some lo) m = true) :
    Memory.wfAbove none m = true := by
  cases m with
  | nil => rfl
  | cons c m =>
    obtain ⟨x, b⟩ := c
    simp only [Memory.wfAbove, Bool.and_eq_true] at w ⊢
    exact ⟨⟨trivial, w.1.2⟩, w.2⟩

/-- A write above `lo` keeps the canonical form above `lo`. -/
theorem Memory.wfAbove_write (m : List Host.Cell) (a : Nat) (b : Byte) (lo : Option Nat)
    (hlo : ∀ l, lo = some l → l < a) (w : Memory.wfAbove lo m = true) :
    Memory.wfAbove lo (Memory.write m a b) = true := by
  induction m generalizing lo with
  | nil =>
    by_cases hb : b = Memory.blank
    · simp [Memory.write, hb, Memory.wfAbove]
    · cases lo with
      | none => simp [Memory.write, hb, Memory.wfAbove]
      | some l => simp [Memory.write, hb, Memory.wfAbove, hlo l rfl]
  | cons c m ih =>
    obtain ⟨x, d⟩ := c
    simp only [Memory.wfAbove, Bool.and_eq_true, decide_eq_true_eq] at w
    obtain ⟨⟨w1, w2⟩, w3⟩ := w
    have tail : Memory.wfAbove lo m = true := by
      cases lo with
      | none => exact Memory.wfAbove_none w3
      | some l => exact Memory.wfAbove_mono (by simpa using Nat.le_of_lt (by simpa using w1)) w3
    simp only [Memory.write]
    by_cases h1 : a < x
    · rw [if_pos h1]
      by_cases hb : b = Memory.blank
      · rw [if_pos hb]
        simp only [Memory.wfAbove, Bool.and_eq_true, decide_eq_true_eq]
        exact ⟨⟨w1, w2⟩, w3⟩
      · rw [if_neg hb]
        simp only [Memory.wfAbove, Bool.and_eq_true, decide_eq_true_eq]
        refine ⟨⟨?_, hb⟩, ⟨h1, w2⟩, w3⟩
        cases lo with
        | none => rfl
        | some l => simpa using hlo l rfl
    · rw [if_neg h1]
      by_cases h2 : a = x
      · subst h2
        rw [if_pos rfl]
        by_cases hb : b = Memory.blank
        · rw [if_pos hb]; exact tail
        · rw [if_neg hb]
          simp only [Memory.wfAbove, Bool.and_eq_true, decide_eq_true_eq]
          exact ⟨⟨w1, hb⟩, w3⟩
      · rw [if_neg h2]
        simp only [Memory.wfAbove, Bool.and_eq_true, decide_eq_true_eq]
        refine ⟨⟨w1, w2⟩, ih (some x) ?_ w3⟩
        intro l hl; cases hl; omega

/-- A write keeps the canonical form. -/
theorem Memory.wf_write {m : List Host.Cell} (a : Nat) (b : Byte) (w : Memory.wf m = true) :
    Memory.wf (Memory.write m a b) = true :=
  Memory.wfAbove_write m a b none (by intro l h; cases h) w

/-- Writes keep the canonical form. -/
theorem Memory.wf_writeCells {m : List Host.Cell} (cells : List Host.Cell) (w : Memory.wf m = true) :
    Memory.wf (Memory.writeCells m cells) = true := by
  induction cells generalizing m with
  | nil => exact w
  | cons c cells ih => exact ih (Memory.wf_write c.1 c.2 w)

theorem Memory.read_of_wfAbove {m : List Host.Cell} {lo a : Nat} (w : Memory.wfAbove (some lo) m = true)
    (h : a ≤ lo) : Memory.read m a = Memory.blank := by
  induction m generalizing lo with
  | nil => rfl
  | cons c m ih =>
    obtain ⟨x, b⟩ := c
    simp only [Memory.wfAbove, Bool.and_eq_true, decide_eq_true_eq] at w
    rw [Memory.read, if_neg (by omega)]
    exact ih w.2 (by omega)

theorem Memory.read_write_above (m : List Host.Cell) (lo : Option Nat) (w : Memory.wfAbove lo m = true)
    (a : Nat) (b : Byte) (x : Nat) :
    Memory.read (Memory.write m a b) x = if x = a then b else Memory.read m x := by
  induction m generalizing lo with
  | nil =>
    by_cases hb : b = Memory.blank
    · simp only [Memory.write, hb, if_true, Memory.read]; split <;> rfl
    · simp only [Memory.write, hb, if_false, Memory.read]
      by_cases h : x = a
      · simp [h]
      · simp [h, Ne.symm h]
  | cons c m ih =>
    obtain ⟨y, d⟩ := c
    simp only [Memory.wfAbove, Bool.and_eq_true, decide_eq_true_eq] at w
    obtain ⟨⟨-, w2⟩, w3⟩ := w
    simp only [Memory.write]
    by_cases h1 : a < y
    · rw [if_pos h1]
      by_cases hb : b = Memory.blank
      · rw [if_pos hb]
        by_cases h : x = a
        · subst h
          rw [if_pos rfl, Memory.read, if_neg (by omega), Memory.read_of_wfAbove w3 (by omega), hb]
        · rw [if_neg h]
      · rw [if_neg hb]
        by_cases h : x = a
        · subst h; simp [Memory.read]
        · rw [if_neg h]; conv => lhs; rw [Memory.read, if_neg (Ne.symm h)]
    · rw [if_neg h1]
      by_cases h2 : a = y
      · subst h2
        rw [if_pos rfl]
        by_cases hb : b = Memory.blank
        · rw [if_pos hb]
          by_cases h : x = a
          · subst h; rw [if_pos rfl, Memory.read_of_wfAbove w3 (Nat.le_refl _), hb]
          · rw [if_neg h, Memory.read, if_neg (Ne.symm h)]
        · rw [if_neg hb]
          by_cases h : x = a
          · subst h; simp [Memory.read]
          · rw [if_neg h]; simp [Memory.read, Ne.symm h]
      · rw [if_neg h2]
        simp only [Memory.read]
        by_cases h : y = x
        · subst h; simp [Ne.symm h2]
        · rw [if_neg h, if_neg h]; exact ih (some y) w3

/-- What an address reads as after a write, in a memory in canonical form. -/
theorem Memory.read_write {m : List Host.Cell} (w : Memory.wf m = true) (a : Nat) (b : Byte) (x : Nat) :
    Memory.read (Memory.write m a b) x = if x = a then b else Memory.read m x :=
  Memory.read_write_above m none w a b x

/-- Bytes the writes do not name read as before. -/
theorem Memory.read_writeCells_of_not_mem {m : List Host.Cell} (cells : List Host.Cell)
    (w : Memory.wf m = true) (x : Nat) (h : ∀ c ∈ cells, c.1 ≠ x) :
    Memory.read (Memory.writeCells m cells) x = Memory.read m x := by
  induction cells generalizing m with
  | nil => rfl
  | cons c cells ih =>
    have := ih (Memory.wf_write c.1 c.2 w) (fun d hd => h d (by simp [hd]))
    rw [show Memory.writeCells m (c :: cells) = Memory.writeCells (Memory.write m c.1 c.2) cells from rfl,
      this, Memory.read_write w, if_neg (Ne.symm (h c (by simp)))]

end Sys2Proof.Machine
end

