-- ==== Sys2Proof/Tests/Slice0.lean ====
section
/-! SUPPORT. The ill-formed terms that WellFormed refuses, the manual's worked examples as single steps on small
states (expected values are the manual's own), and for each obligation with hypotheses a state that meets them. -/

-- One test at a time: evaluated all at once they ask for more threads than the check grants.
set_option Elab.async false

namespace Sys2Proof.Tests

open Sys2Proof Sys2Proof.Machine

/-! ## Small states -/

/-- The state after a row; the same state where the row gave no next state. -/
def after (i : Instr) (s : State) : State :=
  match exec i s with
  | .next t => t
  | .fault _ | .refused _ => s

/-- The row gives a next state. -/
def completes (i : Instr) (s : State) : Bool :=
  match exec i s with
  | .next _ => true
  | .fault _ | .refused _ => false

theorem next_of_completes {i : Instr} {s : State} (h : completes i s = true) : exec i s = .next (after i s) := by
  unfold completes at h
  unfold after
  split at h <;> simp_all

/-- The part after its autoload from an unwritten memory, hunting for a frame. -/
def ready : State :=
  { State.reset with
    link := { State.reset.link with rx := .hunt }
    store := { State.reset.store with activity := .idle } }

/-- A frame for node 1. -/
def me : Head := ⟨1#8, 0x15#8⟩

/-- A state with one roller's coupling state, in the coupling controller and in every view. -/
def withState (k : Roller) (c : CouplingState) (s : State) : State :=
  { onCoupling k (fun r => { r with state := c })
      (onChannel k (fun x => { x with view := c }) (onTarget k (fun x => { x with view := c }) s)) with
    line := { s.line with view := s.line.view.set k c }
    notice := { s.notice with view := s.notice.view.set k c } }

/-- Result class, or refusal code, of the reply that waits: kind and second payload byte for a refusal. -/
def answerOf (s : State) : Option (Byte × List Byte) := s.link.reply.map fun r => (r.kind, r.payload)

/-! ## WellFormed: one ill-formed term for each check -/

theorem test_wf_accepts : (Instr.setSpeed me (-2147483648)).wf = true ∧ (Instr.stop me).wf = true := by
  decide +kernel
theorem test_wf_unsigned_byte : (Instr.selectMode me 256).wf = false := by decide +kernel
theorem test_wf_signed_field :
    (Instr.setSpeed me 2147483648).wf = false ∧ (Instr.setSpeed me (-2147483649)).wf = false := by decide +kernel
theorem test_wf_road_load : (Instr.setRoadLoad me ⟨1500, 0, 0, 0, 32768⟩).wf = false := by decide +kernel
theorem test_wf_limits : (Instr.setLimits me ⟨4294967296, 0, 1, 1⟩).wf = false := by decide +kernel
theorem test_wf_gains : (Instr.setRoller me 1 0 (.gains 65536 0)).wf = false := by decide +kernel
theorem test_wf_roller_fields :
    (Instr.setRoller me 1 1 (.full ⟨0, 256, 50, 1, 0, 0, 1000, 0, 0, 0, 0⟩)).wf = false := by decide +kernel
theorem test_wf_coupling : (Instr.setCoupling me (some { couplingDefault with ramp := 65536 })).wf = false := by
  decide +kernel
theorem test_wf_link : (Instr.setLink me ⟨256, 0, 0⟩).wf = false := by decide +kernel
theorem test_wf_points : (Instr.loadPoints me 1 (List.replicate 240 0#8)).wf = false := by decide +kernel
theorem test_wf_counts : (Instr.setQualifier me 1 0 ⟨256, 1, 1, 1, 1, 1, 1, 1⟩).wf = false := by decide +kernel
theorem test_wf_time : (Instr.setTime me 4294967296).wf = false := by decide +kernel
theorem test_wf_landed : (Instr.storeTimeout 281 true).wf = false := by decide +kernel
theorem test_wf_read : (Instr.autoloadEnd (some [(8192, 0#8)])).wf = false := by decide +kernel

/-! ## Shaft model: 1.7 -/

/-- A channel of 1.7.1 with its force record. -/
def pushing (force : Int) : Channel :=
  { ready.channel.fl with
    view := .locked
    force := force
    forceRecord := { ready.channel.fl.forceRecord with force := force, contributing := true } }

/-- The state of 1.7.1 before the expiry, with the speed, distance and F_meas given. -/
def rolling (v : Int) (distance : Pos) (force : Int) : State :=
  { ready with
    shaft :=
      { ready.shaft with
        mode := .roadLoad, speed := v, distance := distance
        settings :=
          { ready.shaft.settings with road := { m := 1500, a := 1200, b := 300, c := 39000, grade := 0 } } }
    channel := ⟨pushing (force - 2900), pushing 1480, pushing 700, pushing 720⟩ }

/-- 1.7.1: one interval in ROAD_LOAD. -/
theorem test_road_load_interval :
    let r := (after .shaftInterval (rolling 1310720000 ⟨1000000#32, 0#16⟩ 4400)).shaft.record
    (r.speed, r.dv, r.distance, r.fMeas, r.roadLoad, r.fGrade) =
      (1310726903, 6903, 1020000#32, 4400, -2820, 0) := by decide +kernel

/-- 1.7.2, interval 1: a coast-down comes to rest by R24 and publishes the change applied. -/
theorem test_comes_to_rest :
    let r := (after .shaftInterval (rolling 2000 ⟨1020000#32, 64500#16⟩ 0)).shaft.record
    (r.speed, r.dv, r.roadLoad, r.distance) = (0, -2000, -1200, 1020000#32) := by decide +kernel

/-- 1.7.2, interval 4: moving off carries one µm. -/
theorem test_moves_off :
    let t := (after .shaftInterval (rolling 0 ⟨1020000#32, 64500#16⟩ 1500)).shaft
    (t.speed, t.record.roadLoad, t.distance) = (1311, -1200, ⟨1020001#32, 275#16⟩) := by decide +kernel

/-- 1.7.2: the grade force of 5 % uphill is rounded to 7 355 dN. -/
theorem test_grade_force : gradeForce 1500 500 = 7355 := by decide +kernel

/-- A stop ramp of 1.7.3 at a speed. -/
def stopping (v : Int) : State :=
  { ready with shaft := { ready.shaft with mode := .stopping, stopCause := .command, speed := v } }

/-- 1.7.3: STOP in CONSTANT_SPEED at 250 mm/s answers class 0, STOPPING with cause COMMAND. -/
theorem test_stop_command :
    let t := after (.stop me)
      { ready with shaft := { ready.shaft with mode := .constantSpeed, speed := 16384000 } }
    (answerOf t, t.shaft.mode, t.shaft.stopCause) = (some (0x94#8, [0#8]), .stopping, .command) := by decide +kernel

/-- 1.7.3: the first interval of the stop, and the last, which ends in IDLE with the cause kept. -/
theorem test_stop_ramp :
    let a := (after .shaftInterval (stopping 16384000)).shaft
    let z := (after .shaftInterval (stopping 65536)).shaft
    (a.speed, a.mode, a.record.accLimited) = (16187392, .stopping, true) ∧
      (z.speed, z.mode, z.stopCause, z.record.accLimited) = (0, .idle, .command, false) := by decide +kernel

/-- R5: SELECT MODE IDLE in CONSTANT_SPEED answers class 0 while an ARMED run is seen, and class 2 from ROAD_LOAD. -/
theorem test_select_idle_class :
    let s (m : Mode) : State :=
      { ready with
        shaft := { ready.shaft with mode := m }
        profile := { ready.profile with record := { ready.profile.record with run := .armed } } }
    answerOf (after (.selectMode me 0) (s .constantSpeed)) = some (0x90#8, [0#8]) ∧
      answerOf (after (.selectMode me 0) (s .roadLoad)) = some (0x90#8, [2#8]) := by decide +kernel

/-! ## Roller channels: 2.8 -/

/-- Roller FL of 2.8.1 before its expiry. -/
def channelFl : Channel :=
  let c := 533 * 2457600
  { ready.channel.fl with
    settings :=
      { ready.channel.fl.settings with
        scale := 2457600, mass := 600, kp := 500, kv := 200, gain := 32768, zero := 12000 }
    view := .locked
    count := 1000533#32, prevCount := 1000000#32
    window := ⟨c, c, 534 * 2457600, c, c, c, 534 * 2457600, c⟩
    pos := ⟨31250000#32, 32768#16⟩
    held := some ⟨15000, .valid⟩ }

/-- The state of 2.8.1: FL's channel, its target and the record of 1.7.1. -/
def lockedFl : State :=
  { ready with
    channel := { ready.channel with fl := channelFl }
    shaft := { ready.shaft with record := { ready.shaft.record with seq := 9#16, dv := 6903 } }
    target :=
      { ready.target with
        roller := ready.target.roller.set .fl
          { ready.target.roller.fl with
            record :=
              { ready.target.roller.fl.record with
                speed := 1310726903, advanced := true, pos := ⟨31270108#32, 0#16⟩ } } } }

/-- 2.8.1: position, speed, force record and demand of the expiry. -/
theorem test_channel_interval :
    let d := (after (.channelInterval .fl) lockedFl).channel.fl
    (d.pos, d.vMeas, d.force, d.meas.ev, d.meas.ex, d.demand) =
      (⟨31269988#32, 0#16⟩, 19997, 1500, 3, 120, -208) ∧
      d.forceRecord = { force := 1500, age := 0, limited := false, contributing := true, refSeq := 9#16 } ∧
      d.frame = some { seq := 0#8, enable := true, demand := -208 } := by decide +kernel

/-- 2.8.2, expiry 5: the fourth interval without a reading raises FORCE; the frame has enable 0 and demand 0. -/
theorem test_force_fault :
    let s := onChannel .rl (fun c => { c with view := .locked, force := 700, age := 3 }) ready
    let t := after (.channelInterval .rl) s
    (t.channel.rl.force, t.channel.rl.age, t.channel.rl.faultHold, t.channel.rl.enable, t.channel.rl.demand) =
      (700, 4, true, false, 0) ∧
      t.mail.fault.rl = [.force] ∧ t.store.counters.roller.rl.forceFaults = 1 := by decide +kernel

/-- 2.8.3: the ramp of −208 dN over 4 intervals, at its first expiry and at its last. -/
theorem test_release_ramp :
    let s (n : Nat) := onChannel .rr (fun c => { c with view := .releasing, ramp := some ⟨-208, 4, n⟩ }) ready
    (after (.channelInterval .rr) (s 4)).channel.rr.demand = -156 ∧
      (after (.channelInterval .rr) (s 1)).channel.rr.enable = false ∧
      ((after (.channelInterval .rr) (s 1)).mail.fromChannel.rr.head?) = some .rampEnd := by decide +kernel

/-- R188: a reading whose bytes sum to 0 modulo 256 is taken; raw 15 000 is 00 3A 98. -/
theorem test_force_reading :
    (after (.forceReading .fl [(1000, 0x00#8), (1, 0x3A#8), (1, 0x98#8), (1, 0x00#8), (1, 0x2E#8)])
      ready).channel.fl.held = some ⟨15000, .valid⟩ := by decide +kernel

/-- R37: 00 to 10 counts up, and 00 to 11 is illegal and counted. -/
theorem test_encoder :
    (after (.encoderTransition .fl true false) ready).channel.fl.count = 1#32 ∧
      (after (.encoderTransition .fl true true) ready).channel.fl.illegal = 1 ∧
      (after (.encoderTransition .fl true true) ready).store.counters.roller.fl.illegalTransitions = 1 := by
  decide +kernel

/-! ## Target formation: 3.7 -/

/-- 3.7.1, expiry 200: entry 1 reaches 2 000 ppm and RL's target speed is 1 313 341 440. -/
theorem test_ratio_slew :
    let s : State :=
      { ready with
        shaft := { ready.shaft with record := { ready.shaft.record with speed := 1310720000 } }
        target :=
          { ready.target with
            settings :=
              { goals := ready.target.settings.goals.set .e1 2000
                selects := ready.target.settings.selects.set .rl 1 }
            current := ready.target.current.set .e1 1990 } }
    let t := (after .targetInterval s).target
    (t.current.e1, t.roller.rl.speed, t.roller.fl.speed) = (2000, 1313341440, 1310720000) := by decide +kernel

/-- FR of 3.7.2 before its expiry. -/
def nudged (n : Int) : State :=
  let s := withState .fr .locked ready
  { onTarget .fr (fun x => { x with pos := ⟨4294967000#32, 40000#16⟩, nudge := n }) s with
    shaft := { s.shaft with record := { s.shaft.record with speed := 1310720000 } } }

/-- 3.7.2: a second nudge is clamped to 65 535 with class 1, and +70 000 is refused RANGE. -/
theorem test_nudge :
    let t := after (.nudge me 2 40000) (nudged 30000)
    (t.target.roller.fr.nudge, answerOf t) = (65535, some (0xAA#8, [1#8, 0#8, 0#8, 0xFF#8, 0xFF#8])) ∧
      answerOf (after (.nudge me 2 70000) (nudged 30000)) = some (0xFF#8, [0x2A#8, 3#8]) := by decide +kernel

/-- 3.7.2: the target wraps and takes the nudge. -/
theorem test_nudge_applied :
    let x := (after .targetInterval (nudged 65535)).target.roller.fr
    (x.pos, x.record.nudge, x.nudge) = (⟨85239#32, 40000#16⟩, 65535, 0) := by decide +kernel

/-! ## Coupling controller: 4.10 -/

/-- 4.10.1, expiry 140: with both permits present PENDING_ATTACH becomes MATCHING for PERMITS. -/
theorem test_attach_permits :
    let s := onCoupling .fl (fun r => { r with state := .pendingAttach, timer := 139, permitView := true }) ready
    let t := after .couplingInterval { s with coupling := { s.coupling with runPermitView := true } }
    (t.coupling.roller.fl.state, t.coupling.roller.fl.timer) = (.matching, 0) ∧
      t.mail.changeToShaft.fl.map (·.reason) = [.permits] := by decide +kernel

/-- 4.10.1, RR: expiry 2 000 of the attach timer gives RELEASED_UNACK with cause ATTACH_TIMEOUT. -/
theorem test_attach_timeout :
    let s := onCoupling .rr (fun r => { r with state := .pendingAttach, timer := 1999 }) ready
    let r := (after .couplingInterval s).coupling.roller.rr
    (r.state, r.release.first, r.release.subsequent) = (.releasedUnack, .attachTimeout, none) := by decide +kernel

/-- 4.10.2 at 412 397: an emergency stop during FL's release gives the subsequent cause and keeps the time. -/
theorem test_emergency_stop :
    let s := onCoupling .fl
      (fun r =>
        { r with
          state := .releasing
          release := { first := .command, subsequent := none, notSettled := false, time := 412306#32 } }) ready
    let e : RunPermitEvent := ⟨false, false, true, true, true, true⟩
    let t := after .couplingRunPermitChange
      (sendRunPermit e { (onCoupling .rr (fun r => { r with state := .detached }) s) with
        timer := { s.timer with time := 412397#32 } })
    t.coupling.roller.fl.release =
        { first := .command, subsequent := some .estop, notSettled := false, time := 412306#32 } ∧
      t.coupling.roller.rr.release =
        { first := .estop, subsequent := none, notSettled := false, time := 412397#32 } ∧
      t.coupling.roller.fl.state = .releasedUnack := by decide +kernel

/-- 4.10.2 at 412 460 and 412 470: FL is acknowledged, and ATTACH without the run permit is refused PERMIT. -/
theorem test_acknowledge_and_attach :
    let t := after (.acknowledgeRelease me 1) ready
    (t.coupling.roller.fl.state, answerOf t) = (.detached, some (0xB3#8, [0#8])) ∧
      answerOf (after (.attach me 1)
        (onChannel .fl (fun c => { c with settings := { c.settings with scale := 1 } })
          (withState .fl .detached ready))) = some (0xFF#8, [0x30#8, 6#8]) := by decide +kernel

/-- The rollers of 4.10.3 at expiry 17, with the count given. -/
def skewed (count : Nat) : State :=
  let at' (k : Roller) (c : CouplingState) (ex : Int) (s : State) : State :=
    onCoupling k (fun r => { r with state := c, meas := { r.meas with ex := ex } }) s
  let s := at' .fl .locked 2200 (at' .fr .locked (-1300) (at' .rl .locked 3100 (at' .rr .lostLock (-49000) ready)))
  { s with coupling := { s.coupling with skewCount := count } }

/-- 4.10.3, expiry 17: the fault is raised with skew 52 100 between RL and RR. -/
theorem test_skew_fault :
    let t := after .couplingInterval (skewed 15)
    (t.coupling.skewCount, t.coupling.skewRaised, t.mail.skewFault) = (16, true, 1) ∧
      t.mail.reports.coupling = [⟨some 0#32, .skew 52100 .rl .rr 3100 (-49000)⟩] := by decide +kernel

/-! ## Profile queue: 5.9 -/

def p1 : Point := { duration := 4, speed := 10020, grade := 0, isEnd := false, cue := none }
def p2 : Point := { duration := 2, speed := 10020, grade := 150, isEnd := false, cue := some 7 }
def p3 : Point := { duration := 5, speed := 10000, grade := 150, isEnd := false, cue := none }

/-- 5.9.1: the three points are loaded with class 0 and free space 61. -/
theorem test_load_points :
    let bytes : List Byte :=
      [0#8, 4#8, 0#8, 0x27#8, 0x24#8, 0#8, 0#8, 0#8,
       0#8, 2#8, 0#8, 0x27#8, 0x24#8, 0#8, 150#8, 2#8, 7#8,
       0#8, 5#8, 0#8, 0x27#8, 0x10#8, 0#8, 150#8, 0#8]
    let t := after (.loadPoints me 3 bytes) ready
    t.profile.points = [p1, p2, p3] ∧ answerOf t = some (0xC0#8, [0#8, 61#8]) := by decide +kernel

/-- A run of 5.9.1 with the list and the segment in progress. -/
def running' (points : List Point) (vs : Int) (elapsed consumed : Nat) : State :=
  { ready with
    profile :=
      { ready.profile with
        points := points, run := .running, vs := vs, elapsed := elapsed, target := vs, consumed := consumed
        record := { ready.profile.record with run := .running, target := vs } } }

/-- 5.9.1, expiries 1 and 7: the interpolation of a rising and of a falling segment. -/
theorem test_run_target :
    (after .profileInterval (running' [p1, p2, p3] 655360000 0 0)).profile.target = 655687680 ∧
      (after .profileInterval (running' [p3] 656670720 0 2)).profile.target = 656408576 := by decide +kernel

/-- 5.9.1, expiry 6: P2 is consumed, CUE 7 with points consumed 2, and MARK_OUT begins. -/
theorem test_cue :
    let t := after .profileInterval (running' [p2, p3] 656670720 1 1)
    (t.profile.points, t.profile.consumed, t.profile.pulse, t.mail.markOut) = ([p3], 2, 10, [true]) ∧
      t.mail.reports.profile = [⟨some 0#32, .profile (.cue 7 2) .running⟩] := by decide +kernel

/-- 5.9.1, expiry 11: the list runs empty with no END point. -/
theorem test_starved :
    let t := after .profileInterval (running' [p3] 656670720 4 2)
    (t.profile.run, t.profile.target, t.mail.toShaft, t.store.counters.profileUnderruns) =
      (.starved, 655360000, [.starvation], 1) ∧
      t.mail.reports.profile = [⟨some 0#32, .profile (.starved 10000 3) .starved⟩] := by decide +kernel

/-- 5.9.2: a time mark in ARMED with too few points is kept. -/
theorem test_mark_kept :
    let s : State :=
      { ready with
        profile := { ready.profile with run := .armed, condition := .atMark, points := List.replicate 10 p1 }
        mail := { ready.mail with timeMark := [9#32] } }
    let t := after .profileTimeMark s
    (t.profile.run, t.profile.markKept) = (.armed, true) := by decide +kernel

/-- R148: the STARTED notice of a run that starts at a mark carries the cell time of the mark. -/
theorem test_started_at_mark :
    let s : State :=
      { ready with
        profile := { ready.profile with run := .armed, condition := .atMark, points := List.replicate 16 p1 }
        timer := { ready.timer with time := 12#32 }
        mail := { ready.mail with timeMark := [9#32] } }
    (after .profileTimeMark s).mail.reports.profile =
      [⟨some 9#32, .profile (.started .atMark 0 16) .running⟩] := by decide +kernel

/-! ## Line unit: 6.10 -/

/-- L1 to L4 routed to the interlocks and qualified at 1, L1 with count 3. -/
def wired : State :=
  let one : Qualifier := ⟨some true, none, 0⟩
  let set (l : Slot) (i : LogIn) (s : State) : State :=
    { s with
      line :=
        { s.line with
          settings := { s.line.settings with functions := s.line.settings.functions.setLine ⟨.g1, l⟩ (.input i) }
          qualifiers := s.line.qualifiers.setLine ⟨.g1, l⟩ one } }
  let s := set .p1 .estopChain (set .p2 .doorClosed (set .p3 .restraintOk (set .p4 .liftDown ready)))
  { s with
    line :=
      { s.line with
        settings := { s.line.settings with counts := s.line.settings.counts.setLine ⟨.g1, .p1⟩ 3 }
        inputs :=
          { s.line.inputs with estopChain := true, doorClosed := true, restraintOk := true, liftDown := true }
        runPermit := true } }

/-- The levels of group 1 with the level of L1 given. -/
def levels (l1 : Bool) : Eight Bool := ⟨l1, true, true, true, false, false, false, false⟩

/-- 6.10.1, 500 µs: the third low sample qualifies 0, with a run permit event marked as emergency stop. -/
theorem test_estop_qualified :
    let s : State :=
      { wired with
        line :=
          { wired.line with
            qualifiers := wired.line.qualifiers.setLine ⟨.g1, .p1⟩ ⟨some true, some false, 2⟩ } }
    let t := after (.groupSample .g1 (levels false)) s
    t.line.inputs.estopChain = false ∧
      t.mail.permitToShaft = [⟨false, false, true, true, true, true⟩] ∧
      t.mail.reports.line = [⟨some 0#32, .lineChange .estopChain false (some ⟨.g1, .p1⟩) false⟩] := by
  decide +kernel

/-- 6.10.1, 100 and 200 µs: a first low sample is a candidate, and the bounce drops it. -/
theorem test_bounce :
    let t := after (.groupSample .g1 (levels false)) wired
    (t.line.qualifiers.line ⟨.g1, .p1⟩, t.line.inputs.estopChain) = (⟨some true, some false, 1⟩, true) ∧
      (after (.groupSample .g1 (levels true)) t).line.qualifiers.line ⟨.g1, .p1⟩ = ⟨some true, none, 0⟩ := by
  decide +kernel

/-- 6.10.2: a second line on DOOR_CLOSED gives its default, and the run permit goes. -/
theorem test_doubled_route :
    let t := after (.routeLine me 5 3) wired
    (t.line.inputs.doorClosed, t.line.runPermit) = (false, false) ∧
      t.mail.reports.line = [⟨some 0#32, .lineChange .doorClosed false none true⟩] := by decide +kernel

/-- 6.10.3: DRIVE LINES sets, clears and toggles in this order, with class 1 for lines that are not
GENERAL_OUT. -/
theorem test_drive_lines :
    let s : State :=
      { ready with
        line :=
          { ready.line with
            settings :=
              { ready.line.settings with
                functions :=
                  (((ready.line.settings.functions.setLine ⟨.g3, .p4⟩ .generalOut).setLine ⟨.g3, .p5⟩
                    .generalOut).setLine ⟨.g3, .p6⟩ (.output .runLamp)) }
            latches := (ready.line.latches.setLine ⟨.g3, .p5⟩ true).setLine ⟨.g3, .p6⟩ true } }
    let t := after (.driveLines me 0x280000#24 0x180000#24 0x480000#24) s
    t.line.latches.g3 = ⟨false, false, false, true, false, true, true, false⟩ ∧
      (answerOf t).map (·.2.head?) = some (some 1#8) := by decide +kernel

/-! ## Cell timer: 7.7 -/

/-- 7.7.1, expiries 6 and 9: the wrap to 0 is no match, and the compare value 3 is. -/
theorem test_compare_mark :
    let s (n : BitVec 32) : State := { ready with timer := { ready.timer with time := n, compare := 3#32 } }
    let t := after .cellTimerInterval (s 2#32)
    (after .cellTimerInterval (s 0xFFFFFFFF#32)).timer.markCount = 0#16 ∧
      (t.timer.time, t.timer.markCount, t.timer.lastMark, t.mail.timeMark) = (3#32, 1#16, some 3#32, [3#32]) := by
  decide +kernel

/-- 7.7.1: SET COMPARE with the value the time stands at answers class 1. -/
theorem test_set_compare :
    (answerOf (after (.setCompare me 3 0) { ready with timer := { ready.timer with time := 3#32 } })).map
      (·.2.head?) = some (some 1#8) := by decide +kernel

/-! ## Message link: 8.8 and 8.3 -/

/-- The state of 8.8: node 1, group 240, CONSTANT_SPEED, the counters as given. -/
def linked : State :=
  { ready with
    link := { ready.link with settings := ⟨1, 240, 0⟩ }
    shaft := { ready.shaft with mode := .constantSpeed }
    store :=
      { ready.store with
        counters := { ready.store.counters with framesAccepted := 5000, framesDiscarded := 12, commandsRefused := 30 } } }

def counts (s : State) : Nat × Nat × Nat :=
  (s.store.counters.framesAccepted, s.store.counters.framesDiscarded, s.store.counters.commandsRefused)

/-- 8.8: SET SPEED one byte short is refused LENGTH: kind 0xFF, refused kind 0x13, code 2. -/
theorem test_short_frame :
    let bytes := frameBytes 1#8 0x13#8 0x11#8 [0#8, 0x23#8, 0x28#8]
    let t := receiveAll false (bytes.map (·, 0)) linked
    (answerOf t, counts t) = (some (0xFF#8, [0x13#8, 2#8]), (5001, 12, 31)) := by decide +kernel

/-- 8.8: a damaged CRC is discarded and counted, with no reply. -/
theorem test_damaged_crc :
    let bytes := [0x5A#8, 1#8, 4#8, 0x13#8, 0x12#8, 0#8, 0#8, 0x23#8, 0x28#8, 0#8, 0#8]
    let t := receiveAll false (bytes.map (·, 0)) linked
    (answerOf t, counts t, t.link.rx) = (none, (5000, 13, 30), .hunt) := by decide +kernel

/-- 8.8: NUDGE to the group is refused by state and not answered; SET LIMITS to 0 is discarded. -/
theorem test_group_and_broadcast :
    let s := withState .rl .detached linked
    let t := after (.nudge ⟨240#8, 0#8⟩ 3 500) s
    let u := after (.setLimits ⟨0#8, 0#8⟩ ⟨1000, 0, 1, 1⟩) s
    (answerOf t, counts t) = (none, (5001, 12, 31)) ∧ (answerOf u, counts u) = (none, (5000, 13, 30)) := by
  decide +kernel

/-- 8.8: STOP to 0 acts without a reply. -/
theorem test_broadcast_stop :
    let t := after (.stop ⟨0#8, 0x14#8⟩) linked
    (answerOf t, counts t, t.shaft.mode, t.link.rx) = (none, (5001, 12, 30), .stopping, .hunt) := by decide +kernel

/-- R153: the frame of STOP to node 1 with tag 0x07 ends in the CRC 0x4D24. -/
theorem test_stop_frame :
    cmdFrame ⟨1#8, 0x07#8⟩ .stop = [0x5A#8, 0x01#8, 0x00#8, 0x14#8, 0x07#8, 0x4D#8, 0x24#8] := by decide +kernel

/-! ## Notice queue: 9.6 -/

/-- A sample notice of 9.6. -/
def sample (n : Nat) : Notice :=
  let r : RollerSample := { state := .locked, vMeas := 0, ex := 0, demand := 0, force := 0, refSeq := 0#16 }
  { seq := BitVec.ofNat 8 n, time := 0#32, body := .shaftSample ready.shaft.record ⟨r, r, r, r⟩ }

/-- An event notice of 9.6. -/
def event (n : Nat) : Notice := { seq := BitVec.ofNat 8 n, time := 0#32, body := .storeDone true .check }

/-- The queue of 9.6 with its events and samples; the next sequence number is given. -/
def queued (events samples : List Notice) (next : BitVec 8) (overflow : Bool) : State :=
  { ready with
    notice := { ready.notice with events := events, samples := samples, nextSeq := next, overflow := overflow } }

/-- 9.6: a MODE CHANGE in a full queue displaces the newest sample S35. -/
theorem test_displacement :
    let samples := ((List.range 14).map fun i => sample (20 + i)) ++ [sample 35]
    let s := reportPlain .shaft (.modeChange .roadLoad .stopping .command 0 0#16)
      (queued [event 34] samples 37#8 true)
    let q := (after (.noticeReport .shaft) s).notice
    (q.events.map (·.seq), q.samples.map (·.seq)) =
      ([34#8, 37#8], (List.range 14).map fun i => BitVec.ofNat 8 (20 + i)) := by decide +kernel

/-- 9.6, fetch 2: two samples fill a reply; class 1 with 11 left and the flag set. -/
theorem test_fetch_samples :
    let t := after (.fetchNotices me) (queued [] ((List.range 13).map fun i => sample (21 + i)) 38#8 true)
    t.notice.samples.length = 11 ∧ (answerOf t).map (fun r => (r.1, r.2.take 4)) =
      some (0xE8#8, [1#8, 11#8, 1#8, 2#8]) := by decide +kernel

/-- 9.6, fetch 8: the last notice leaves class 0, shows the flag and clears it. -/
theorem test_fetch_last :
    let t := after (.fetchNotices me) (queued [] [sample 33] 38#8 true)
    t.notice.overflow = false ∧ (answerOf t).map (fun r => (r.1, r.2.take 4)) =
      some (0xE8#8, [0#8, 0#8, 1#8, 1#8]) := by decide +kernel

/-! ## Settings store: 10.7 -/

/-- 10.7: STORE SETTINGS takes the snapshot and writes the mark; a RESET in the store is refused BUSY. -/
theorem test_store_settings :
    let t := after (.storeSettings me true) ready
    (t.store.activity, t.store.stage, answerOf t) = (.storing, .write, some (0xF0#8, [0#8])) ∧
      t.store.snapshot = some (liveSettings ready) ∧
      answerOf (after (.reset me) { ready with store := t.store }) = some (0xFF#8, [0x72#8, 5#8]) := by decide +kernel

/-- A store of the default settings with everything written. -/
def sealed : State :=
  { ready with
    store :=
      { ready.store with
        activity := .storing, stage := .check, snapshot := some .default
        memory := Memory.writeCells (Memory.writeCells [] (cellsFrom 8 (sectionBytes .default))) (sealCells .default) } }

/-- R178: a read-back the memory does not complete fails the store in CHECK, and the mark makes the image invalid. -/
theorem test_store_check_fails :
    let s : State :=
      { ready with
        store :=
          { ready.store with
            activity := .storing, stage := .check, snapshot := some .default, memory := [(1, 1#8), (9, 7#8)] } }
    let t := after (.storeCheckDone none true) s
    (t.store.activity, t.store.lastOutcome, t.store.memory, t.mail.reports.store) =
      (.idle, .failed .check, [(9, 7#8)], [⟨none, .storeDone false .check⟩]) := by decide +kernel

/-- R176: an autoload that finds no valid image gives the defaults. -/
theorem test_autoload_defaults :
    let t := after (.autoloadEnd (some [])) State.reset
    (t.store.lastImage, t.link.rx, t.mail.handover.profile) = (false, .skip, some 16) := by decide +kernel

/-- R165, 7.6: after an autoload the 2 ms count from the entry into SKIP. A start byte after a longer gap, which may have
begun in OFF, is ignored; the next one after such a gap, or one after IDLE TIMEOUT, begins a frame. -/
theorem test_skip_after_autoload :
    let s : State := { after .autoloadTimeout State.reset with mail := .empty }
    let start : Instr := .receiveByte 0x5A#8 3000 true false
    ((after start s).link.rx, (after start (after start s)).link.rx, (after .idleTimeout s).link.rx,
        (after start (after .idleTimeout s)).link.rx, (after (.stop me) s).link.rx) =
      (.skip, .address, .hunt, .address, .skip) := by decide +kernel

/-- The table spells no command as a word. -/
theorem test_no_words : decodeTableWord 8 0x14 = none ∧ State.reset.withFetchWord 8 0x14 = State.reset :=
  ⟨rfl, rfl⟩

/-! ## Witnesses: for each statement with hypotheses, states and operands that meet them, clause by clause -/

theorem hears_ready : hears me ready := ⟨rfl, rfl⟩

/-- Every law's premise holds right after power-on, and the events run there. -/
theorem laws_at_reset :
    speedLawful State.reset.shaft = true ∧ storeLawful State.reset = true ∧ linkLawful State.reset.link = true ∧
      profileLawful State.reset.profile = true ∧ runLawful State.reset.profile = true ∧
      noticesLawful State.reset.notice = true ∧ countersLawful State.reset.store.counters = true ∧
      Memory.wf State.reset.store.memory = true ∧ inputsLawful State.reset.line = true ∧
      outputsLawful State.reset.line = true ∧ estopLawful State.reset = true ∧
      contributingLawful State.reset = true ∧ settingsKept State.reset = true ∧
      ratiosLawful State.reset = true ∧ handoverLawful State.reset = true ∧
      State.reset.mail.handover.shaft = none := by decide +kernel

theorem roller_laws_at_reset :
    ∀ k : Roller, viewsFollow State.reset k = true ∧ demandBounded State.reset k = true ∧
      forceLawful (State.reset.channel.get k) = true ∧ demandLawful (State.reset.channel.get k) = true ∧
      (State.reset.channel.get k).zeroing.isSome = false ∧ State.reset.mail.handover.channel.get k = none := by
  intro k
  cases k <;> decide +kernel

/-- An interval of the shaft model right after power-on gives a next state: with `laws_at_reset` and
`roller_laws_at_reset` it meets the hypotheses of LinkAndStoreLawsHold, SpeedObeysItsLaw, ModeMovesByTheTable,
ForceMarkAndDemandLaws, DemandStaysWithinItsLimit, ViewsFollowTheRollers, EmergencyStopReleasesAll, ProfileLawsHold,
LineLawsHold, QueueCountersAndMemoryLaws, SettingsStayInRange and CouplingMovesByTheTable. -/
theorem witness_invariants : exec .shaftInterval State.reset = .next (after .shaftInterval State.reset) :=
  next_of_completes (by decide +kernel)

/-- LinkAndStoreLawsHold and SpeedObeysItsLaw, with every section of an autoload waiting in SKIP, and none. -/
theorem witness_handover_waits :
    let s := after .autoloadTimeout State.reset
    handoverLawful s = true ∧ handedOver s = false ∧ s.link.rx = .skip ∧ linkLawful s.link = true ∧
      storeLawful s = true ∧ speedLawful s.shaft = true ∧ completes (.settingsHandover .shaft) s = true ∧
      handoverLawful ready = true ∧ handedOver ready = true := by decide +kernel

/-- SpeedObeysItsLaw, where the speed does move. -/
theorem witness_speed_moves :
    speedLawful (rolling 1310720000 .zero 4400).shaft = true ∧ handoverLawful (rolling 1310720000 .zero 4400) = true ∧
      (rolling 1310720000 .zero 4400).mail.handover.shaft = none ∧ 0 ≤ ready.shaft.dvLim ∧ 0 ≤ ready.shaft.dvStop ∧
      (after .shaftInterval (rolling 1310720000 .zero 4400)).shaft.speed ≠ 1310720000 := by decide +kernel

/-- A state in which the receiver has taken all of a frame to node 1 but the second CRC byte. -/
def lastByteOf (kind : Byte) (payload : List Byte) (addr : Byte) : State :=
  receiveAll false ((frameBytes addr kind 7#8 payload).dropLast.map (·, 0)) linked

/-- The byte that ends a frame. -/
def lastCrc (kind : Byte) (payload : List Byte) (addr : Byte) : Byte :=
  (frameBytes addr kind 7#8 payload).getLast?.getD 0#8

/-- CouplingMovesByTheTable, where a roller leaves RELEASED_UNACK by the row, and by the last byte of its frame. -/
theorem witness_leaves_released :
    ready.coupling.roller.fl.state = .releasedUnack ∧
      (after (.acknowledgeRelease me 1) ready).coupling.roller.fl.state = .detached ∧
      completes (.acknowledgeRelease me 1) ready = true ∧
      (lastByteOf 0x33#8 [1#8] 1#8).coupling.roller.fl.state = .releasedUnack ∧
      (after (.receiveByte (lastCrc 0x33#8 [1#8] 1#8) 0 true false)
        (lastByteOf 0x33#8 [1#8] 1#8)).coupling.roller.fl.state = .detached := by decide +kernel

/-- EmergencyStopReleasesAll, with ESTOP_CHAIN 0, a roller attached and the marked event still waiting. -/
theorem witness_estop_waits :
    let s := sendRunPermit ⟨false, false, true, true, true, true⟩ (withState .fl .locked ready)
    estopLawful s = true ∧ allResting s.coupling = false ∧ completes .couplingRunPermitChange s = true := by
  decide +kernel

/-- DemandStaysWithinItsLimit and ForceMarkAndDemandLaws, for a driven roller at the limit 20 000. -/
theorem witness_driven_roller :
    let s := onChannel .fl (fun c =>
      { c with demand := 20000, enable := true, forceRecord := { c.forceRecord with contributing := true } })
      (withState .fl .locked ready)
    demandBounded s .fl = true ∧ forceLawful s.channel.fl = true ∧ demandLawful s.channel.fl = true ∧
      s.mail.handover.channel.fl = none ∧ completes (.channelInterval .fl) s = true := by decide +kernel

/-- RollerGeometryIsFrozen: a zeroing in flight where the roller rests, and a roller that does not rest; the hand-over
of a record under `handoverLawful`. -/
theorem witness_geometry :
    let z := onChannel .fl (fun c => { c with zeroing := some ⟨0, 0⟩ }) (withState .fr .locked ready)
    z.channel.fl.zeroing.isSome = true ∧ resting z.coupling.roller.fl.state = true ∧
      z.channel.fr.zeroing.isSome = false ∧ resting z.coupling.roller.fr.state = false ∧
      handoverLawful z = true ∧ Instr.shaftInterval ≠ .powerOnReset 0 ∧
      completes (.settingsHandover (.channel .fr)) z = true ∧
      completes .shaftInterval z = true := by decide +kernel

/-- SettingsStayInRange, with a section on its way to the shaft model in IDLE. -/
theorem witness_handover_in_idle :
    let s : State :=
      { ready with
        mail := { ready.mail with handover := { ready.mail.handover with shaft := some .default } } }
    settingsKept s = true ∧ s.shaft.mode = .idle ∧ completes (.settingsHandover .shaft) s = true := by decide +kernel

/-- FrameMeetsTheReceiver: OFF, REPLYING, SKIP with and without a hand-over waiting, entered from OFF and not, a frame
unfinished, a foreign address, address 0. -/
theorem witness_FrameMeetsTheReceiver :
    (Instr.setSpeed me 9000).command = some (me, .setSpeed 9000) ∧ State.reset.link.rx = .off ∧
      (after (.stop me) ready).link.rx = .replying ∧ (rxTo .skip ready).link.rx = .skip ∧
      handedOver (rxTo .skip ready) = true ∧ (after .autoloadTimeout State.reset).link.rx = .skip ∧
      handedOver (after .autoloadTimeout State.reset) = false ∧ (rxTo .skip ready).link.fromOff = false ∧
      (after .autoloadTimeout State.reset).link.fromOff = true ∧
      inFrame (rxTo .address ready).link.rx = true ∧ inFrame (rxTo .crcLow ready).link.rx = true ∧
      ready.link.rx = .hunt ∧ (2#8).toNat ≠ ready.link.settings.node ∧ ready.link.settings.group = 0 ∧
      2#8 ≠ 0#8 ∧ (0#8).toNat ≠ linked.link.settings.node ∧ (0#8).toNat ≠ linked.link.settings.group ∧
      cmdKind (.setSpeed 9000) ≠ 0x14 ∧ cmdKind (.setSpeed 9000) ≠ 0x32 := by decide +kernel

/-- SilentFramesActAlike: NUDGE to the group 240, and STOP to 0 with the group address 240 held (8.8) and with none. -/
theorem witness_SilentFramesActAlike :
    linkLawful linked.link = true ∧ linkLawful ready.link = true ∧ linked.link.rx = .hunt ∧
      (Instr.nudge me 3 500).command = some (me, .nudge 3 500) ∧
      (Instr.nudge ⟨240#8, 0#8⟩ 3 500).command = some (⟨240#8, 0#8⟩, .nudge 3 500) ∧
      markAccepted (.nudge me 3 500) = markAccepted (.nudge ⟨240#8, 0#8⟩ 3 500) ∧
      me.addr.toNat = linked.link.settings.node ∧ (240#8).toNat ≠ linked.link.settings.node ∧
      linked.link.settings.group ≠ 0 ∧ (240#8).toNat = linked.link.settings.group ∧
      (Instr.stop ⟨0#8, 0#8⟩).command = some (⟨0#8, 0#8⟩, .stop) ∧ (0#8).toNat ≠ linked.link.settings.node ∧
      linked.link.settings.group = 240 ∧
      ready.link.settings.group = 0 ∧ completes (.stop me) linked = true ∧
      cmdKind .stop = 0x14 ∧ cmdKind (.isolate 0) = 0x32 ∧
      completes (.nudge me 3 500) linked = true ∧ completes (.stop me) ready = true := by decide +kernel

/-- EveryCommandIsAnswered. -/
theorem witness_EveryCommandIsAnswered : (Instr.stop me).command = some (me, .stop) ∧ hears me ready :=
  ⟨rfl, rfl, rfl⟩

/-- FrameBytesAreTheCommand: the seven bytes of STOP, the first after 3 000 µs of idle line and the next at the limit
of 2 000 µs. -/
theorem witness_FrameBytesAreTheCommand :
    let bytes := (cmdFrame me .stop).zip [3000, 2000, 0, 0, 0, 0, 2000]
    (Instr.stop me).command = some (me, .stop) ∧ (Instr.stop me).wf = true ∧ ready.link.rx = .hunt ∧
      bytes.map (·.1) = cmdFrame me .stop ∧ ∀ x ∈ bytes.tail, x.2 ≤ gapLimitUs := by decide +kernel

/-- PayloadCarriesItsCommand: the shortest load and the least speed. -/
theorem witness_PayloadCarriesItsCommand :
    Cmd.wf (.loadPoints 1 (List.replicate 8 0#8)) = true ∧ lengthOk (.loadPoints 1 (List.replicate 8 0#8)) = true ∧
      Cmd.wf (.setSpeed (-2147483648)) = true ∧ lengthOk (.setSpeed (-2147483648)) = true := by decide +kernel

/-- The receiver waits for the last byte of a frame whose CRC is good. -/
def goodSoFar (kind : Byte) (payload : List Byte) (addr : Byte) : Bool :=
  let l := (lastByteOf kind payload addr).link
  decide (l.rx = .crcLow) && decide (l.frame.crcHigh = (l.frame.crc >>> 8).setWidth 8) &&
    decide (lastCrc kind payload addr = l.frame.crc.setWidth 8)

/-- ReceiverTakesItsBytes: a gap at the limit and one above it; and good frames to a foreign address, to address 0, with
a reply kind, of undefined kind, too short, to the group too short, to address 0 too long, and carrying a command. -/
theorem witness_ReceiverTakesItsBytes :
    (2000 : Nat) ≤ gapLimitUs ∧ gapLimitUs < 2001 ∧ linked.link.settings = ⟨1, 240, 0⟩ ∧
      ([(0x14#8, [], 2#8), (0x12#8, [], 0#8), (0x94#8, [], 1#8), (0x01#8, [], 1#8),
          (0x13#8, [0#8, 0x23#8, 0x28#8], 1#8), (0x13#8, [0#8], 240#8), (0x14#8, [1#8], 0#8), (0x14#8, [], 1#8)].all
        fun x => goodSoFar x.1 x.2.1 x.2.2) = true ∧
      lengthRight 0x01 [] = none ∧ lengthRight 0x13 [0#8, 0x23#8, 0x28#8] = some false ∧
      lengthRight 0x14 [1#8] = some false ∧ lengthRight 0x14 [] = some true ∧
      (Instr.stop ⟨1#8, 7#8⟩).command = some (⟨1#8, 7#8⟩, .stop) := by decide +kernel

/-- The frame of a STOP carries that command. -/
theorem witness_frame_carries_its_command : cmdOfFrame 0x14 [] = .ok .stop := rfl

/-- ReplyIsSentThenItActs: a reply that waits, before and after its start, and no reply. -/
theorem witness_ReplyIsSentThenItActs :
    let t := after (.stop me) ready
    t.link.rx = .replying ∧ t.link.reply = some ⟨1#8, 0x94#8, 0x15#8, [1#8]⟩ ∧ t.link.driver = false ∧
      (after .replyStart t).link.driver = true ∧ (after .replyStart t).link.rx = .replying ∧
      ready.link.rx ≠ .replying := by decide +kernel

/-- ModesAreSelectedAndStopped, ShaftSettingsAreReplaced and ReadsChangeNothing. -/
theorem witness_shaft_commands :
    hears me ready ∧ 3 < 4 ∧ Mode.idle ≠ .stopping ∧ 1 ≤ 4 ∧ 4 < 5 ∧ 1 < 2 :=
  ⟨hears_ready, by decide⟩

/-- NetForceByCase: v above, below and at 0, and at rest D = A, A + 1, −A and −A − 1. -/
theorem witness_NetForceByCase :
    let s (f : Int) := rolling 0 .zero f
    let d (f : Int) : Int :=
      (s f).channel.fl.forceRecord.force + (s f).channel.fr.forceRecord.force +
        (s f).channel.rl.forceRecord.force + (s f).channel.rr.forceRecord.force
    0 < (rolling 1 .zero 0).shaft.speed ∧ (rolling (-1) .zero 0).shaft.speed < 0 ∧ (s 0).shaft.speed = 0 ∧
      d 1200 = (s 1200).shaft.settings.road.a ∧ ((s 0).shaft.settings.road.a : Int) < d 1201 ∧
      d (-1200) = -((s 0).shaft.settings.road.a : Int) ∧ d (-1201) < -((s 0).shaft.settings.road.a : Int) := by
  decide +kernel

/-- IntervalSpeedByMode: each mode, a run RUNNING and not, and a speed of dv_stop and one above it. -/
theorem witness_IntervalSpeedByMode :
    ready.shaft.mode = .idle ∧ (rolling 0 .zero 0).shaft.mode = .roadLoad ∧
      (running' [p1] 0 0 0).profile.record.run = .running ∧ ready.profile.record.run ≠ .running ∧
      linked.shaft.mode = .constantSpeed ∧ (stopping 196608).shaft.mode = .stopping ∧
      mag (stopping 196608).shaft.speed ≤ (stopping 196608).shaft.dvStop ∧
      (stopping 196609).shaft.dvStop < mag (stopping 196609).shaft.speed := by decide +kernel

/-- StopTakesItsIntervals: the 84 intervals of 1.7.3, one from rest, and a speed of dv_stop and one above it. -/
theorem witness_StopTakesItsIntervals :
    (stopping 16384000).shaft.mode = .stopping ∧ 0 < (stopping 16384000).shaft.dvStop ∧
      mag (stopping 196608).shaft.speed ≤ (stopping 196608).shaft.dvStop ∧
      (stopping 196609).shaft.dvStop < mag (stopping 196609).shaft.speed ∧
      speedLawful (stopping 16384000).shaft = true ∧ speedLawful (stopping 0).shaft = true ∧
      (84 : Int) = (mag (stopping 16384000).shaft.speed + (stopping 16384000).shaft.dvStop - 1) /
        (stopping 16384000).shaft.dvStop := by decide +kernel

/-- ShaftTakesEvents: one event of each kind waits. -/
theorem witness_ShaftTakesEvents :
    let s := sendToShaft (.finish 70000) (sendSkewFault (sendChange .fl ⟨.detached, .pendingAttach, .attach, 0#32⟩
      (sendRunPermit ⟨true, true, true, true, true, false⟩ ready)))
    s.mail.permitToShaft = [⟨true, true, true, true, true, false⟩] ∧
      s.mail.changeToShaft.fl = [⟨.detached, .pendingAttach, .attach, 0#32⟩] ∧ s.mail.skewFault = 0 + 1 ∧
      s.mail.toShaft = [.finish 70000] := by decide +kernel

/-- RollerCommandsAreChecked: roller numbers 0 and 5, form 2, and a body of each form. -/
theorem witness_RollerCommandsAreChecked :
    hears me ready ∧ (4 : Nat) < 5 ∧ (1 : Nat) < 2 ∧ lengthOk (.setRoller 0 0 (.gains 0 0)) = true ∧
      lengthOk (.setRoller 1 2 (.gains 0 0)) = true :=
  ⟨hears_ready, by decide⟩

/-- EncoderAndConverterAreRead: gaps of 100 and 101 µs, a reading that gives a next state, and no byte and three held. -/
theorem witness_EncoderAndConverterAreRead :
    (100 : Nat) < 101 ∧ (100 : Nat) ≤ 100 ∧ completes (.forceReading .fl [(101, 0#8), (100, 1#8)]) ready = true ∧
      ready.channel.fl.rxBytes.length < 4 ∧
      (after (.forceReading .fl [(101, 0#8), (100, 1#8), (100, 2#8)]) ready).channel.fl.rxBytes.length = 3 := by
  decide +kernel

/-- IndexEdgeIsChecked. -/
theorem witness_IndexEdgeIsChecked : (sendIndexEdge .fl ready).mail.indexEdge.get .fl = 0 + 1 := by decide +kernel

/-- ChannelFormsItsMeasurement: readings VALID and not, and zeroings with 126 and 127 readings taken. -/
theorem witness_ChannelFormsItsMeasurement :
    let z (n : Nat) := (onChannel .fl (fun c => { c with zeroing := some ⟨0, n⟩ }) lockedFl).channel.fl
    (lockedFl.channel.fl.held.map (·.status)) = some .valid ∧ ready.channel.fl.used.status ≠ .valid ∧
      ready.channel.fl.zeroing = none ∧ (z 126).zeroing = some ⟨0, 126⟩ ∧ 126 < 127 ∧
      (z 127).zeroing = some ⟨0, 127⟩ ∧ ¬127 < 127 := by decide +kernel

/-- ChannelFormsItsDemand: a fault hold, an undriven view, an attached view, and ramps with 2, 1 and 0 remaining. -/
theorem witness_ChannelFormsItsDemand :
    let s (n : Nat) := (onChannel .fl (fun c => { c with view := .releasing, ramp := some ⟨-208, 4, n⟩ }) ready).channel.fl
    ({ ready.channel.fl with faultHold := true } : Channel).faultHold = true ∧
      undriven ready.channel.fl.view = true ∧ attached lockedFl.channel.fl.view = true ∧
      (after (.channelInterval .fl) lockedFl).channel.fl.faultHold = false ∧ (s 2).view = .releasing ∧
      (s 2).ramp = some ⟨-208, 4, 0 + 2⟩ ∧ (s 1).ramp = some ⟨-208, 4, 1⟩ ∧ (s 0).ramp = some ⟨-208, 4, 0⟩ := by
  decide +kernel

/-- RatioCommandsAreTaken: entries 0, 1, 7 and 8, rollers 0 and 5, selects 7 and 8, displacements at the ends. -/
theorem witness_RatioCommandsAreTaken :
    hears me ready ∧ (7 : Nat) < 8 ∧ entryOfNum 1 = some .e1 ∧ entryOfNum 7 = some .e7 ∧ (4 : Nat) < 5 ∧
      (-65536 : Int) < -65535 ∧ (65535 : Int) < 65536 ∧ (7 : Nat) ≤ 7 :=
  ⟨hears_ready, by decide⟩

/-- TargetsOfAnInterval: a roller whose position is held, and one whose is not. -/
theorem witness_TargetsOfAnInterval :
    (nudged 0).target.roller.fr.view = .locked ∧ (nudged 0).target.roller.fl.view = .releasedUnack := by
  decide +kernel

/-- SlewReachesItsGoal: 2 000 ppm in 200 intervals and not in 199, a select of the entry, and ratios in range. -/
theorem witness_SlewReachesItsGoal :
    let goals := ready.target.settings.goals.set .e1 2000
    mag (goals.get .e1 - ready.target.current.get .e1) ≤ 10 * (200 : Int) ∧
      10 * (199 : Int) < mag (goals.get .e1 - ready.target.current.get .e1) ∧
      entryOfNum ((ready.target.settings.selects.set .rl 1).get .rl) = some .e1 ∧ ratiosLawful ready = true ∧
      completes (.setRatio me 1 2000) ready = true := by decide +kernel

/-- CouplingChangesAreFollowed: a change waits for the channel and for target formation. -/
theorem witness_CouplingChangesAreFollowed :
    let e : Change := ⟨.releasedUnack, .detached, .acknowledged, 0#32⟩
    (sendChange .fl e ready).mail.changeToChannel.get .fl = [e] ∧
      (sendChange .fl e ready).mail.changeToTarget.get .fl = [e] := by decide +kernel

/-- AttachAndAcknowledge and ReleaseAndIsolate: roller numbers 0, 4 and 5. -/
theorem witness_coupling_commands : hears me ready ∧ (4 : Nat) < 5 ∧ (4 : Nat) ≤ 4 ∧ (0 : Nat) ≤ 4 :=
  ⟨hears_ready, by decide⟩

/-- R76, R75: the default parameters are taken, and a match flywheel of 0 or a release ramp of 2 001 refused RANGE. -/
theorem test_set_coupling :
    (answerOf (after (.setCoupling me (some couplingDefault)) ready)).map (·.1) = some 0xB4#8 ∧
      answerOf (after (.setCoupling me (some { couplingDefault with nMatch := 0 })) ready) =
        some (0xFF#8, [0x34#8, 3#8]) ∧
      answerOf (after (.setCoupling me (some { couplingDefault with ramp := 2001 })) ready) =
        some (0xFF#8, [0x34#8, 3#8]) := by decide +kernel

/-- SkewIsSupervised: four rollers seen with RL largest and RR smallest, and at most one seen. -/
theorem witness_SkewIsSupervised :
    let r (k : Roller) := (skewed 15).coupling.roller.get k
    (∀ k ∈ Roller.all, ((r k).state = .locked ∨ (r k).state = .lostLock) ∧
      (r k).meas.ex ≤ (r .rl).meas.ex ∧ (r .rr).meas.ex ≤ (r k).meas.ex ∧
      ((r k).meas.ex = (r .rl).meas.ex → rollerNum .rl ≤ rollerNum k) ∧
      ((r k).meas.ex = (r .rr).meas.ex → rollerNum .rr ≤ rollerNum k)) ∧ Roller.fl ≠ .rl ∧
      (∀ k ∈ Roller.all, (ready.coupling.roller.get k).state ≠ .locked ∧
        (ready.coupling.roller.get k).state ≠ .lostLock) := by decide +kernel

/-- MeasurementsAreCounted: a measurement waits, and a roller in RELEASING with and without its ramp ended. -/
theorem witness_MeasurementsAreCounted :
    (sendChannelMessage .fl (.measurement .zero) ready).mail.fromChannel.get .fl = [.measurement .zero] ∧
      (withState .fl .releasing ready).coupling.roller.fl.state = .releasing ∧
      (withState .fl .releasing ready).coupling.roller.fl.rampEnded = false ∧
      (withState .fl .matching ready).coupling.roller.fl.state ≠ .locked := by decide +kernel

/-- CouplingTakesEvents: one event of each kind waits. -/
theorem witness_CouplingTakesEvents :
    let s := sendRollerPermit .fl ⟨true, true, true⟩ (sendFault .fl .index (sendChannelMessage .fl .rampEnd
      (sendRunPermit ⟨false, false, true, true, true, true⟩ ready)))
    s.mail.fromChannel.get .fl = [.rampEnd] ∧ s.mail.fault.get .fl = [.index] ∧
      s.mail.rollerPermit.get .fl = [⟨true, true, true⟩] ∧
      s.mail.permitToCoupling = [⟨false, false, true, true, true, true⟩] := by decide +kernel

/-- PointsAreLoadedAndCleared: loads of 7, 8, 144 and 145 bytes, counts 0, 1, 16 and 17, and points that parse and
do not. -/
theorem witness_PointsAreLoadedAndCleared :
    hears me ready ∧ (List.replicate 7 1#8).length < 8 ∧ 144 < (List.replicate 145 1#8).length ∧
      8 ≤ (List.replicate 8 1#8).length ∧ (List.replicate 144 1#8).length ≤ 144 ∧ (16 : Nat) < 17 ∧ (1 : Nat) ≤ 16 ∧
      parsePoints 2 (List.replicate 8 0#8) = none ∧
      parsePoints 1 (List.replicate 8 0#8) =
        some [{ duration := 0, speed := 0, grade := 0, isEnd := false, cue := none }] :=
  ⟨hears_ready, by decide +kernel⟩

/-- RunStartsAndIsAbandoned: START PROFILE with condition 2, a time mark and an abandonment that wait. -/
theorem witness_RunStartsAndIsAbandoned :
    hears me ready ∧ (1 : Nat) < 2 ∧ (sendTimeMark 9#32 ready).mail.timeMark = [9#32] ∧
      (sendAbandonment .stop ready).mail.abandonment = [.stop] :=
  ⟨hears_ready, by decide⟩

/-- ProfileAdvancesItsSegment: no run, a segment short of its end, one at its end with END, with nothing behind it and
with a point behind it. -/
theorem witness_ProfileAdvancesItsSegment :
    ready.profile.run ≠ .running ∧ (running' [p1, p2] 0 2 0).profile.run = .running ∧
      (running' [p1, p2] 0 2 0).profile.points = p1 :: [p2] ∧ 2 + 1 < p1.duration ∧ p1.duration ≤ 3 + 1 ∧
      ({ p1 with isEnd := true } : Point).isEnd = true ∧ p1.isEnd = false ∧ ([p2] : List Point) ≠ [] := by
  decide +kernel

/-- GroupSampleIsTaken: an input with one line that is qualified, and inputs with none. -/
theorem witness_GroupSampleIsTaken :
    let w := (after (.groupSample .g1 (levels false)) wired).line
    routedLines w .estopChain = [⟨.g1, .p1⟩] ∧
      (w.qualifiers.line ⟨.g1, .p1⟩).value = some true ∧ routedLines w .extMark = [] := by decide +kernel

/-- LinesAreRoutedAndDriven: lines 0 and 25, code 26, the cell idle and not, the same code and another, and a change,
a mode and a pulse that wait. -/
theorem witness_LinesAreRoutedAndDriven :
    hears me ready ∧ (24 : Nat) < 25 ∧ (25 : Nat) < 26 ∧ cellIdle ready = true ∧
      cellIdle (withState .fl .locked ready) = false ∧ ready.line.settings.functions.line ⟨.g1, .p1⟩ = .generalIn ∧
      ready.line.settings.functions.line ⟨.g1, .p1⟩ ≠ .generalOut ∧
      (sendChange .fl ⟨.releasedUnack, .detached, .acknowledged, 0#32⟩ ready).mail.changeToLine.get .fl =
        [⟨.releasedUnack, .detached, .acknowledged, 0#32⟩] ∧
      (sendRecord ready.shaft.record ready).mail.modeToLine = [.idle] ∧ (sendMarkOut true ready).mail.markOut = [true] :=
  ⟨hears_ready, by decide +kernel⟩

/-- CellTimerKeepsTime: a mark edge waits. -/
theorem witness_CellTimerKeepsTime : hears me ready ∧ (sendMarkEdge ready).mail.markEdge = 0 + 1 :=
  ⟨hears_ready, rfl⟩

/-- NoticesAreAdmittedAndStored: a report, a RELOAD DONE before the notice settings are handed over, a coupling change
and a reference record wait. -/
theorem witness_NoticesAreAdmittedAndStored :
    let s := reportPlain .store (.reloadDone true) ready
    let h : State :=
      { s with mail := { s.mail with handover := { s.mail.handover with notice := some .default } } }
    reportsOf s.mail.reports .store = [⟨none, .reloadDone true⟩] ∧ s.mail.handover.notice = none ∧
      h.mail.handover.notice ≠ none ∧ reportsOf h.mail.reports .store = [⟨none, .reloadDone true⟩] ∧
      (sendChange .fl ⟨.releasedUnack, .detached, .acknowledged, 0#32⟩ ready).mail.changeToNotice.get .fl =
        [⟨.releasedUnack, .detached, .acknowledged, 0#32⟩] ∧
      (sendRecord ready.shaft.record ready).mail.recordToNotice = [ready.shaft.record] := by decide +kernel

/-- NoticesAreFetched. -/
theorem witness_hears : hears me ready := hears_ready

/-- ResetsKeepTheSettings, at the node address: no store in flight with the cell at rest and not, and a store in flight. -/
theorem witness_reset_at_the_node :
    hears me ready ∧ ready.store.activity ≠ .storing ∧ ready.shaft.mode = .idle ∧
      (∀ k ∈ Roller.all, (ready.coupling.roller.get k).state = .releasedUnack) ∧
      hears me (withState .fl .locked ready) ∧ ((withState .fl .locked ready).coupling.roller.get .fl).state = .locked ∧
      hears me (after (.storeSettings me true) ready |> silenced) ∧
      (after (.storeSettings me true) ready).store.activity = .storing := by
  simp only [hears]; decide +kernel

/-- ResetsKeepTheSettings, at the group address: the same three cases. -/
theorem witness_reset_at_the_group :
    let grouped (s : State) : State := { s with link := { s.link with settings := ⟨1, 240, 0⟩ } }
    (grouped ready).link.rx = .hunt ∧ (grouped ready).link.settings = ⟨1, 240, 0⟩ ∧ (240#8).toNat = 240 ∧
      (grouped ready).store.activity ≠ .storing ∧ (grouped ready).shaft.mode = .idle ∧
      (∀ k ∈ Roller.all, ((grouped ready).coupling.roller.get k).state = .releasedUnack) ∧
      linked.link.rx = .hunt ∧ linked.link.settings = ⟨1, 240, 0⟩ ∧ linked.shaft.mode ≠ .idle ∧
      linked.store.activity ≠ .storing ∧
      (after (.storeSettings ⟨240#8, 1#8⟩ true) (grouped ready)).link.rx = .hunt ∧
      (after (.storeSettings ⟨240#8, 1#8⟩ true) (grouped ready)).store.activity = .storing := by decide +kernel

/-- StoreRunsItsStages: a command heard, and a snapshot held in a stage. -/
theorem witness_StoreRunsItsStages : hears me ready ∧ sealed.store.snapshot = some .default ∧
    sealed.store.activity = .storing ∧ sealed.store.stage = .check :=
  ⟨hears_ready, rfl, rfl, rfl⟩

/-- ImageCarriesTheSettings: the defaults are in range, and a store of them with everything written. -/
theorem witness_ImageCarriesTheSettings :
    settingsLawful .default = true ∧ Memory.wf [] = true ∧ sealed.store.activity = .storing ∧
      sealed.store.stage = .check ∧ sealed.store.snapshot = some .default ∧
      sealed.store.memory =
        Memory.writeCells (Memory.writeCells [] (cellsFrom 8 (sectionBytes .default))) (sealCells .default) :=
  ⟨by decide +kernel, rfl, rfl, rfl, rfl, by simp only [sealed]⟩

/-- AutoloadHandsTheSettings: loading and not, and every section waiting. -/
theorem witness_AutoloadHandsTheSettings :
    let s := after .autoloadTimeout State.reset
    State.reset.store.activity = .loading ∧ ready.store.activity ≠ .loading ∧
      s.mail.handover.shaft = some .default ∧ (∀ k ∈ Roller.all, s.mail.handover.channel.get k = some .default) ∧
      s.mail.handover.target = some .default ∧ s.mail.handover.coupling = some couplingDefault ∧
      s.mail.handover.profile = some 16 ∧ s.mail.handover.line = some .default ∧
      s.mail.handover.notice = some .default := by decide +kernel

end Sys2Proof.Tests
end

