-- ==== Sys2Proof/Proofs/RatioCommands.lean ====
section
/-! PROOFS. The commands of target formation (R60, R61, R69): what each answers, case by case. -/

namespace Sys2Proof.Machine

/-! ## The numbers of entries and rollers, and the views that hold a position -/

theorem entryOfNum_eq_none {n : Nat} (h : n = 0 ∨ 7 < n) : entryOfNum n = none := by
  unfold entryOfNum
  split <;> first | rfl | omega

theorem rollerOfNum_eq_none {n : Nat} (h : n = 0 ∨ 4 < n) : rollerOfNum n = none := by
  unfold rollerOfNum
  split <;> first | rfl | omega

@[simp] theorem rollerOfNum_rollerNum (k : Roller) : rollerOfNum (rollerNum k) = some k := by
  cases k <;> rfl

theorem positionHeld_iff (v : CouplingState) : positionHeld v = true ↔ v = .locked ∨ v = .lostLock := by
  cases v <;> simp [positionHeld]

/-! ## The three rows are frames of their commands -/

theorem exec_setRatio (h : Head) (n : Nat) (goal : Int) (s : State) :
    exec (.setRatio h n goal) s = .next (deliver h (.setRatio n goal) false s) := rfl

theorem exec_selectRatio (h : Head) (n m : Nat) (s : State) :
    exec (.selectRatio h n m) s = .next (deliver h (.selectRatio n m) false s) := rfl

theorem exec_nudge (h : Head) (n : Nat) (d : Int) (s : State) :
    exec (.nudge h n d) s = .next (deliver h (.nudge n d) false s) := rfl

/-! ## SET RATIO (R60) -/

theorem takeSetRatio_range {n : Nat} (hn : n = 0 ∨ 7 < n) (goal : Int) (s : State) :
    takeSetRatio n goal s = .refused .range := by
  simp [takeSetRatio, entryOfNum_eq_none hn]

theorem takeSetRatio_entry {n : Nat} {e : Entry} (he : entryOfNum n = some e) (goal : Int) (s : State) :
    takeSetRatio n goal s =
      let g := clampAbs 50000 goal
      .taken
        { s with
          target :=
            { s.target with settings := { s.target.settings with goals := s.target.settings.goals.set e g } } }
        (if g = goal then 0 else 1) (be 4 g ++ be 4 (s.target.current.get e)) none := by
  simp [takeSetRatio, he, doneWith]

/-! ## SELECT RATIO (R61) -/

theorem takeSelectRatio_range {n m : Nat} (h : n = 0 ∨ 4 < n ∨ 7 < m) (s : State) :
    takeSelectRatio n m s = .refused .range := by
  unfold takeSelectRatio
  split
  · rfl
  · next k hk =>
    have hm : 7 < m := Nat.lt_of_not_le fun hm => by
      rw [rollerOfNum_eq_none (by omega)] at hk
      cases hk
    rw [if_pos hm]

section Roller
variable {k : Roller} {m : Nat} {s : State}

theorem takeSelectRatio_state (hm : m ≤ 7) (held : positionHeld (s.coupling.roller.get k).state = true) :
    takeSelectRatio (rollerNum k) m s = .refused .state := by
  simp [takeSelectRatio, Nat.not_lt.mpr hm, held]

theorem takeSelectRatio_same (hm : m ≤ 7) (free : ¬positionHeld (s.coupling.roller.get k).state = true)
    (same : s.target.settings.selects.get k = m) :
    takeSelectRatio (rollerNum k) m s = .taken s 1 [] none := by
  simp [takeSelectRatio, Nat.not_lt.mpr hm, free, same, done]

theorem takeSelectRatio_other (hm : m ≤ 7) (free : ¬positionHeld (s.coupling.roller.get k).state = true)
    (other : ¬s.target.settings.selects.get k = m) :
    takeSelectRatio (rollerNum k) m s =
      .taken
        { s with
          target :=
            { s.target with
              settings := { s.target.settings with selects := s.target.settings.selects.set k m } } }
        0 [] none := by
  simp [takeSelectRatio, Nat.not_lt.mpr hm, free, other, done]

end Roller

/-! ## NUDGE (R69) -/

theorem takeNudge_range {n : Nat} {d : Int} (h : n = 0 ∨ 4 < n ∨ d < -65535 ∨ 65535 < d) (s : State) :
    takeNudge n d s = .refused .range := by
  unfold takeNudge
  split
  · rfl
  · next k hk =>
    have hd : inRange (-65535) 65535 d = false := by
      rw [← Bool.not_eq_true, inRange_iff]
      intro hd
      rw [rollerOfNum_eq_none (by omega)] at hk
      cases hk
    rw [if_pos hd]

section Roller
variable {k : Roller} {d : Int} {s : State}

theorem takeNudge_state (hlo : -65535 ≤ d) (hhi : d ≤ 65535)
    (free : ¬positionHeld (s.coupling.roller.get k).state = true) :
    takeNudge (rollerNum k) d s = .refused .state := by
  simp [takeNudge, (inRange_iff _ _ _).mpr ⟨hlo, hhi⟩, free]

theorem takeNudge_held (hlo : -65535 ≤ d) (hhi : d ≤ 65535)
    (held : positionHeld (s.coupling.roller.get k).state = true) :
    takeNudge (rollerNum k) d s =
      let x := s.target.roller.get k
      let nudge := clampAbs 65535 (x.nudge + d)
      .taken { s with target := { s.target with roller := s.target.roller.set k { x with nudge := nudge } } }
        (if nudge = x.nudge + d then 0 else 1) (be 4 nudge) none := by
  simp [takeNudge, (inRange_iff _ _ _).mpr ⟨hlo, hhi⟩, held, doneWith, onTarget]

end Roller

end Sys2Proof.Machine

open Sys2Proof Sys2Proof.Machine

/-- Settles O31: a frame heard is answered by its command (`deliver_taken`, `deliver_refused`), and each command by its
equations above. -/
theorem ratioCommandsAreTaken : Obligations.RatioCommandsAreTaken := by
  intro h s hh
  simp only [exec_setRatio, exec_selectRatio, exec_nudge, Host.Outcome.next.injEq, ne_eq, ← not_or,
    ← positionHeld_iff]
  refine ⟨fun n goal hn => ?_, fun n goal e he => ?_, fun n m hn => ?_, fun n d hn => ?_, fun k =>
    ⟨fun m hm => ?_, fun d hlo hhi => ?_⟩⟩
  · exact deliver_refused (c := .setRatio n goal) hh rfl (takeSetRatio_range hn goal _)
  · exact deliver_taken (c := .setRatio n goal) hh rfl (takeSetRatio_entry he goal _) rfl
  · exact deliver_refused (c := .selectRatio n m) hh rfl (takeSelectRatio_range hn _)
  · exact deliver_refused (c := .nudge n d) hh rfl (takeNudge_range hn _)
  · split
    · next held => exact deliver_refused (c := .selectRatio _ m) hh rfl (takeSelectRatio_state hm held)
    · next free =>
      split
      · next same => exact deliver_taken (c := .selectRatio _ m) hh rfl (takeSelectRatio_same hm free same) rfl
      · next other => exact deliver_taken (c := .selectRatio _ m) hh rfl (takeSelectRatio_other hm free other) rfl
  · split
    · next free => exact deliver_refused (c := .nudge _ d) hh rfl (takeNudge_state hlo hhi free)
    · next held => exact deliver_taken (c := .nudge _ d) hh rfl (takeNudge_held hlo hhi (Classical.not_not.mp held)) rfl
end

