-- ==== Sys2Proof/Proofs/TargetInterval.lean ====
section
/-! PROOFS. The interval of target formation (R59, R63 to R66, R68): the slew of the entries, and what is formed for
each roller with the values after it. -/

namespace Sys2Proof.Machine

/-! ## The ratio in use (R63) -/

theorem ratioInUse_of_entry (current : Seven Int) {n : Nat} {e : Entry} (h : entryOfNum n = some e) :
    ratioInUse current n = current.get e := by
  unfold entryOfNum at h
  split at h <;> cases h <;> rfl

theorem ratioInUse_of_none (current : Seven Int) {n : Nat} (h : entryOfNum n = none) : ratioInUse current n = 0 := by
  unfold ratioInUse
  split <;> first | rfl | cases h

/-! ## The slew (R59) -/

theorem slew_eq_min_max (goal now : Int) :
    slew goal now = if now < goal then min goal (now + 10) else if goal < now then max goal (now - 10) else now := by
  unfold slew mag
  omega

/-! ## One roller (R64 to R66, R68) -/

/-- A nudge moves the raw position by whole µm, modulo 2⁴⁸ (R68). -/
theorem Pos.raw_nudgePos (p : Pos) (d : Int) : (nudgePos p d).raw = (p.raw + d * 65536) % 2 ^ 48 := by
  have hfrac := p.frac.isLt
  simp only [Pos.raw, nudgePos, BitVec.toNat_ofInt]
  omega

theorem Pos.raw_nudgePos_advance (p : Pos) (v d : Int) :
    (nudgePos (p.advance v) d).raw = (p.raw + v + d * 65536) % 2 ^ 48 := by
  rw [Pos.raw_nudgePos, Pos.raw_advance, Int.emod_add_emod]

section TargetOf
variable (ref : RefRecord) (current : Seven Int) (select : Nat) (meas : MeasRecord) {t : TargetRoller}

/-- What does not depend on the view. -/
theorem targetOf_speed :
    let y := targetOf ref current select meas t
    let v := targetSpeed ref.speed (ratioInUse current select)
    y.view = t.view ∧ y.speed = v ∧ y.record.refSeq = ref.seq ∧ y.record.select = select ∧
      y.record.ratio = ratioInUse current select ∧ y.record.speed = v ∧ y.record.pos = y.pos := by
  unfold targetOf
  split <;> simp

/-- In LOCKED and LOST_LOCK the position advances by the target speed and the pending nudge, which is used up. -/
theorem targetOf_held (held : positionHeld t.view = true) :
    let y := targetOf ref current select meas t
    y.pos = nudgePos (t.pos.advance (targetSpeed ref.speed (ratioInUse current select))) t.nudge ∧ y.nudge = 0 ∧
      y.record.advanced = true ∧ y.record.nudge = t.nudge := by
  simp [targetOf, held]

/-- In every other view the position is the measured one, and the pending nudge stays. -/
theorem targetOf_tracking (free : ¬positionHeld t.view = true) :
    let y := targetOf ref current select meas t
    y.pos = meas.pos ∧ y.nudge = t.nudge ∧ y.record.advanced = false ∧ y.record.nudge = 0 := by
  simp [targetOf, free]

end TargetOf

/-! ## The expiry (R63) -/

theorem exec_targetInterval (s : State) : exec .targetInterval s = .next (targetExpiry s) := rfl

@[simp] theorem targetExpiry_settings (s : State) : (targetExpiry s).target.settings = s.target.settings := rfl

@[simp] theorem targetExpiry_current (s : State) (e : Entry) :
    (targetExpiry s).target.current.get e = slew (s.target.settings.goals.get e) (s.target.current.get e) := by
  simp [targetExpiry, slewAll]

theorem targetExpiry_roller (s : State) (k : Roller) :
    (targetExpiry s).target.roller.get k =
      targetOf s.shaft.record (targetExpiry s).target.current (s.target.settings.selects.get k)
        (s.channel.get k).meas (s.target.roller.get k) := by
  simp [targetExpiry]

end Sys2Proof.Machine

open Sys2Proof Sys2Proof.Machine

/-- Settles O32: the expiry forms every roller by `targetOf` with the current values after the slew. -/
theorem targetsOfAnInterval : Obligations.TargetsOfAnInterval := by
  intro s
  refine ⟨targetExpiry s, exec_targetInterval s, rfl, rfl, fun e => ?_, fun k => ?_⟩
  · exact (targetExpiry_current s e).trans (slew_eq_min_max _ _)
  · rw [targetExpiry_roller s k]
    generalize (targetExpiry s).target.current = current
    intro x y m p v
    have hp : p = ratioInUse current m := by
      cases hm : entryOfNum m with
      | none => simp only [p, hm, ratioInUse_of_none current hm]
      | some e => simp only [p, hm, ratioInUse_of_entry current hm]
    have hv : v = targetSpeed s.shaft.record.speed (ratioInUse current m) := by simp only [v, hp, targetSpeed]
    obtain ⟨view, speed, refSeq, select, ratio, recordSpeed, pos⟩ :=
      targetOf_speed s.shaft.record current m (s.channel.get k).meas (t := x)
    refine ⟨view, speed.trans hv.symm, refSeq, select, ratio.trans hp.symm, recordSpeed.trans hv.symm, pos, ?_, ?_⟩
    · intro held
      obtain ⟨moved, used, advanced, nudged⟩ :=
        targetOf_held s.shaft.record current m (s.channel.get k).meas ((positionHeld_iff x.view).mpr held)
      refine ⟨?_, used, advanced, nudged⟩
      rw [hv]
      exact (congrArg Pos.raw moved).trans (Pos.raw_nudgePos_advance _ _ _)
    · intro notLocked notLost
      exact targetOf_tracking s.shaft.record current m (s.channel.get k).meas
        fun held => ((positionHeld_iff x.view).mp held).elim notLocked notLost
end

