-- ==== Sys2Proof/Proofs/LinkKeeps.lean ====
section
/-! PROOFS. What the message link keeps, said once for every predicate that speaks neither of the link nor of the
counters: it holds after a frame, a byte or an idle line if it holds after every command the link may take
(R152 to R165). -/

namespace Sys2Proof.Machine

/-- The predicate speaks neither of the message link nor of the counters. -/
def LinkBlind (P : State → Prop) : Prop :=
  ∀ (s : State) (l : Link) (c : Counters), P s → P { s with link := l, store := { s.store with counters := c } }

/-- The command, taken in a state with `P`, leaves `P`, and so does what acts after its reply (R164). -/
def CmdKeeps (P : State → Prop) (accepts : Bool) (cmd : Except RefusalCode Cmd) : Prop :=
  ∀ (s t : State) (cls : Nat) (fields : List Byte) (act : Option Deferred),
    P s → runFrame accepts s cmd = .taken t cls fields act → P t ∧ P (actNow act t)

section
variable {P : State → Prop} {s : State} {accepts : Bool} {cmd : Except RefusalCode Cmd}

theorem LinkBlind.rxTo (hP : LinkBlind P) (rx : RxState) (h : P s) : P (rxTo rx s) := hP s _ s.store.counters h

theorem LinkBlind.rxOn (hP : LinkBlind P) (rx : RxState) (f : RxFrame) (h : P s) : P (rxOn rx f s) :=
  hP s _ s.store.counters h

theorem LinkBlind.onLink (hP : LinkBlind P) (f : Link → Link) (h : P s) : P (onLink f s) :=
  hP s _ s.store.counters h

theorem LinkBlind.discardTo (hP : LinkBlind P) (rx : RxState) (h : P s) : P (discardTo rx s) := hP s _ _ h

theorem LinkBlind.countAccepted (hP : LinkBlind P) (h : P s) : P (countAccepted s) := hP s s.link _ h

theorem LinkBlind.countDiscarded (hP : LinkBlind P) (h : P s) : P (countDiscarded s) := hP s s.link _ h

theorem LinkBlind.countRefused (hP : LinkBlind P) (h : P s) : P (countRefused s) := hP s s.link _ h

theorem LinkBlind.startReply (hP : LinkBlind P) (r : Reply) (act : Option Deferred) (h : P s) :
    P (startReply r act s) := hP s _ s.store.counters h

theorem LinkBlind.skipIgnores (hP : LinkBlind P) (h : P s) : P (skipIgnores s) := by
  obtain ⟨-, same⟩ | ⟨-, counted⟩ := skipIgnores_cases s
  · rwa [same]
  · rw [counted]; exact hP.onLink _ h

theorem LinkBlind.gapTest (hP : LinkBlind P) (gapUs : Nat) (h : P s) : P (gapTest gapUs s) := by
  obtain same | ⟨-, -, discarded⟩ | ⟨-, -, -, -, left⟩ := gapTest_cases s gapUs
  · rwa [same]
  · rw [discarded]; exact hP.discardTo _ h
  · rw [left]; exact hP.rxTo _ h

theorem LinkBlind.idlePasses (hP : LinkBlind P) (h : P s) : P (idlePasses s) := by
  obtain same | ⟨-, -, left⟩ := idlePasses_cases s
  · rwa [same]
  · rw [left]; exact hP.rxTo _ (hP.onLink _ h)

/-! ## A frame accepted (R155 to R161) -/

theorem answer_keeps (hP : LinkBlind P) (hcmd : CmdKeeps P accepts cmd) (h : Head) (kind : Byte) (hs : P s) :
    P (answer h kind accepts cmd s) := by
  unfold answer
  dsimp only
  split
  · exact hP.startReply _ _ (hP.countRefused hs)
  · next taken => exact hP.startReply _ _ (hcmd _ _ _ _ _ hs taken).1

theorem runSilently_keeps (hP : LinkBlind P) (hcmd : CmdKeeps P accepts cmd) (hs : P s) :
    P (runSilently accepts cmd s) := by
  unfold runSilently
  split
  · exact hP.countRefused hs
  · next taken => exact (hcmd _ _ _ _ _ hs taken).2

theorem acceptFrame_keeps (hP : LinkBlind P) (hcmd : CmdKeeps P accepts cmd) (h : Head) (kind : Byte) (hs : P s) :
    P (acceptFrame h kind accepts cmd s) := by
  have hunting : P (rxTo .hunt s) := hP.rxTo _ hs
  have counted := hP.countAccepted hunting
  have discarded := hP.countDiscarded hunting
  unfold acceptFrame
  dsimp only
  split
  · split
    · exact discarded
    · exact answer_keeps hP hcmd h kind counted
  · split
    · split
      · exact discarded
      · exact runSilently_keeps hP hcmd counted
    · split
      · split
        · exact runSilently_keeps hP hcmd counted
        · exact discarded
      · exact hunting

/-! ## A whole frame, and a byte (R152 to R154) -/

theorem lineIdleThen_keeps (hP : LinkBlind P) {start : State → State} (hstart : ∀ u, P u → P (start u)) (hs : P s) :
    P (lineIdleThen start s) := by
  unfold lineIdleThen
  cases s.link.rx with
  | off | replying => exact hs
  | skip =>
    dsimp only
    split
    · exact hstart s hs
    · exact hP.skipIgnores hs
  | hunt => exact hstart s hs
  | address | length | kind | tag | payload | crcHigh | crcLow => exact hstart _ (hP.discardTo _ hs)

theorem deliver_keeps (hP : LinkBlind P) {c : Cmd} (hcmd : CmdKeeps P accepts (.ok c)) (h : Head) (hs : P s) :
    P (deliver h c accepts s) :=
  lineIdleThen_keeps hP (fun _ hu => acceptFrame_keeps hP hcmd h _ hu) hs

theorem frameComplete_keeps (hP : LinkBlind P) (hcmd : ∀ cmd, CmdKeeps P accepts cmd) (b : Byte) (hs : P s) :
    P (frameComplete b accepts s) := by
  unfold frameComplete
  dsimp only
  split
  · exact acceptFrame_keeps hP (hcmd _) _ _ hs
  · exact hP.discardTo _ hs

theorem byteTaken_keeps (hP : LinkBlind P) (hcmd : ∀ cmd, CmdKeeps P accepts cmd) (b : Byte) (hs : P s) :
    P (byteTaken b accepts s) := by
  unfold byteTaken
  cases s.link.rx with
  | off | replying => exact hs
  | skip => exact hP.skipIgnores hs
  | hunt =>
    dsimp only
    split
    · exact hP.rxTo _ hs
    · exact hs
  | length =>
    dsimp only
    split
    · exact hP.discardTo _ hs
    · exact hP.rxOn _ _ hs
  | address | kind | tag | payload | crcHigh => exact hP.rxOn _ _ hs
  | crcLow => exact frameComplete_keeps hP hcmd b hs

theorem framingError_keeps (hP : LinkBlind P) (hs : P s) : P (framingError s) := by
  unfold framingError
  split
  · exact hP.discardTo _ hs
  · split
    · exact hP.skipIgnores hs
    · exact hs

theorem byteReceived_keeps (hP : LinkBlind P) (hcmd : ∀ cmd, CmdKeeps P accepts cmd) (b : Byte) (gapUs : Nat)
    (stopOk : Bool) (hs : P s) : P (byteReceived b gapUs stopOk accepts s) := by
  unfold byteReceived
  split
  · exact byteTaken_keeps hP hcmd b (hP.gapTest gapUs hs)
  · exact framingError_keeps hP (hP.gapTest gapUs hs)

theorem gapPasses_keeps (hP : LinkBlind P) (hs : P s) : P (gapPasses s) := by
  unfold gapPasses
  split
  · exact hP.discardTo _ hs
  · exact hs

/-! ## The reply sent (R158, R164) -/

theorem replyStarts_keeps (hP : LinkBlind P) (hs : P s) : P (replyStarts s) := by
  unfold replyStarts
  split
  · exact hP.onLink _ hs
  · exact hs

theorem replyEnds_keeps (hP : LinkBlind P) (hact : ∀ act u, P u → P (actNow act u)) (hs : P s) :
    P (replyEnds s) := by
  unfold replyEnds
  split
  · exact hact _ _ (hP.onLink _ hs)
  · exact hs

end

end Sys2Proof.Machine
end

