-- ==== Sys2Proof/Proofs/RatioFrames.lean ====
section
/-! PROOFS. What leaves the ratio table alone: the operations, events and commands of every block but target formation
and the settings store, said as one equation each. -/

namespace Sys2Proof.Machine

/-- The settings and current values of target formation, and the section of an autoload that waits for it: all that the
law of R59 speaks of (`ratiosLawful_congr`). -/
def ratioPart (s : State) : RatioSettings × Seven Int × Option RatioSettings :=
  (s.target.settings, s.target.current, s.mail.handover.target)

theorem ratiosLawful_congr {s t : State} (h : ratioPart t = ratioPart s) : ratiosLawful t = ratiosLawful s := by
  obtain ⟨settings, current, handover⟩ : t.target.settings = s.target.settings ∧
      t.target.current = s.target.current ∧ t.mail.handover.target = s.mail.handover.target := by
    simpa [ratioPart] using h
  simp only [ratiosLawful, settings, current, handover]

variable (s : State)

/-- Steps that leave the ratio table alone leave it so in succession. -/
theorem ratioPart_foldl {α : Type} {f : State → α → State} (h : ∀ u x, ratioPart (f u x) = ratioPart u) (l : List α) :
    ratioPart (l.foldl f s) = ratioPart s := by
  induction l generalizing s with
  | nil => rfl
  | cons x xs ih => exact (ih (f s x)).trans (h s x)

/-! ## Operations that every block shares -/

@[simp] theorem ratioPart_onChannel (k : Roller) (f : Channel → Channel) :
    ratioPart (onChannel k f s) = ratioPart s := rfl
@[simp] theorem ratioPart_onCoupling (k : Roller) (f : CouplingRoller → CouplingRoller) :
    ratioPart (onCoupling k f s) = ratioPart s := rfl
@[simp] theorem ratioPart_onProfile (f : Profile → Profile) : ratioPart (onProfile f s) = ratioPart s := rfl
@[simp] theorem ratioPart_onLine (f : LineUnit → LineUnit) : ratioPart (onLine f s) = ratioPart s := rfl
@[simp] theorem ratioPart_onStore (f : Store → Store) : ratioPart (onStore f s) = ratioPart s := rfl

/-! ## Roller channels (chapter 2) -/

@[simp] theorem ratioPart_encoderSample (k : Roller) (p1 p2 : Bool) :
    ratioPart (encoderSample k p1 p2 s) = ratioPart s := by
  unfold encoderSample
  dsimp only
  split
  · rfl
  · split <;> rfl

@[simp] theorem ratioPart_handOff (k : Roller) (kind : FaultKind) : ratioPart (handOff k kind s) = ratioPart s := by
  unfold handOff
  split <;> rfl

@[simp] theorem ratioPart_raiseCondition (k : Roller) (kind : FaultKind) (present was : Bool) (detail : Int) :
    ratioPart (raiseCondition k kind present was detail s) = ratioPart s := by
  unfold raiseCondition
  split
  · rw [ratioPart_handOff]
    split <;> rfl
  · rfl

@[simp] theorem ratioPart_stageMeasure (k : Roller) : ratioPart (stageMeasure k s) = ratioPart s := by
  unfold stageMeasure
  dsimp only
  split <;> rfl

@[simp] theorem ratioPart_stageFaults (k : Roller) : ratioPart (stageFaults k s) = ratioPart s := by
  simp [stageFaults]

@[simp] theorem ratioPart_stageDemand (k : Roller) : ratioPart (stageDemand k s) = ratioPart s := by
  unfold stageDemand
  dsimp only
  split <;> split <;> rfl

@[simp] theorem ratioPart_channelExpiry (k : Roller) : ratioPart (channelExpiry k s) = ratioPart s :=
  calc ratioPart (channelExpiry k s)
    _ = ratioPart (stageDemand k (stageForceRecord k (stageFaults k (stageMeasure k s)))) := rfl
    _ = ratioPart (stageFaults k (stageMeasure k s)) := ratioPart_stageDemand _ k
    _ = ratioPart s := by simp

@[simp] theorem ratioPart_takeIndexEdge (k : Roller) : ratioPart (takeIndexEdge k s) = ratioPart s := by
  unfold takeIndexEdge
  split
  · rfl
  · unfold indexEdgeTaken
    dsimp only
    split
    · rfl
    · split
      · exact ratioPart_handOff _ k .index
      · rfl

@[simp] theorem ratioPart_takeChannelChange (k : Roller) : ratioPart (takeChannelChange k s) = ratioPart s := by
  unfold takeChannelChange
  split <;> rfl

@[simp] theorem ratioPart_takeTargetChange (k : Roller) : ratioPart (takeTargetChange k s) = ratioPart s := by
  unfold takeTargetChange
  split <;> rfl

/-! ## Coupling controller (chapter 4) -/

@[simp] theorem ratioPart_moveRoller (k : Roller) (new : CouplingState) (reason : Reason) :
    ratioPart (moveRoller k new reason s) = ratioPart s := rfl

@[simp] theorem ratioPart_startReleasing (k : Roller) (cause : Reason) :
    ratioPart (startReleasing k cause s) = ratioPart s := rfl

@[simp] theorem ratioPart_releaseAtOnce (k : Roller) (cause : Reason) :
    ratioPart (releaseAtOnce k cause s) = ratioPart s := by
  rw [releaseAtOnce, ratioPart_moveRoller]
  split <;> rfl

@[simp] theorem ratioPart_releaseRoller (k : Roller) : ratioPart (releaseRoller k s) = ratioPart s := by
  unfold releaseRoller
  split <;> simp

@[simp] theorem ratioPart_isolateRoller (k : Roller) : ratioPart (isolateRoller k s) = ratioPart s := by
  unfold isolateRoller
  split
  · rfl
  · simp

@[simp] theorem ratioPart_estopRoller (k : Roller) : ratioPart (estopRoller k s) = ratioPart s := by
  unfold estopRoller
  split
  · rfl
  · simp

@[simp] theorem ratioPart_countTest (k : Roller) (m : MeasRecord) : ratioPart (countTest k m s) = ratioPart s := by
  unfold countTest
  dsimp only
  cases (s.coupling.roller.get k).state with
  | matching | locked | lostLock | releasing =>
    dsimp only
    repeat' split
    all_goals rfl
  | detached | pendingAttach | releasedUnack => rfl

@[simp] theorem ratioPart_takeMeasurement (k : Roller) : ratioPart (takeMeasurement k s) = ratioPart s := by
  unfold takeMeasurement
  split
  · exact ratioPart_countTest _ k _
  · rfl

@[simp] theorem ratioPart_takeRampEnd (k : Roller) : ratioPart (takeRampEnd k s) = ratioPart s := by
  unfold takeRampEnd rampEndArrives
  split
  · split <;> rfl
  · rfl

@[simp] theorem ratioPart_timerTest (k : Roller) : ratioPart (timerTest k s) = ratioPart s := by
  unfold timerTest
  dsimp only
  cases (s.coupling.roller.get k).state with
  | pendingAttach | lostLock | releasing =>
    dsimp only
    repeat' split
    all_goals simp
  | detached | matching | locked | releasedUnack => rfl

@[simp] theorem ratioPart_skewTest : ratioPart (skewTest s) = ratioPart s := by
  unfold skewTest
  dsimp only
  split
  · rfl
  · rfl
  · repeat' split
    all_goals rfl

@[simp] theorem ratioPart_couplingExpiry : ratioPart (couplingExpiry s) = ratioPart s :=
  (ratioPart_foldl _ (fun u k => ratioPart_timerTest u k) _).trans (ratioPart_skewTest s)

@[simp] theorem ratioPart_takeFault (k : Roller) : ratioPart (takeFault k s) = ratioPart s := by
  unfold takeFault faultArrives
  split
  · rfl
  · split
    · rfl
    · exact ratioPart_releaseAtOnce _ k _

@[simp] theorem ratioPart_takeCouplingPermit : ratioPart (takeCouplingPermit s) = ratioPart s := by
  unfold takeCouplingPermit couplingTakesPermit
  split
  · rfl
  · split
    · exact ratioPart_foldl _ (fun u k => ratioPart_estopRoller u k) _
    · rfl

@[simp] theorem ratioPart_permitLost (k : Roller) : ratioPart (permitLost k s) = ratioPart s := by
  unfold permitLost
  split <;> simp

@[simp] theorem ratioPart_takeRollerPermit (k : Roller) : ratioPart (takeRollerPermit k s) = ratioPart s := by
  unfold takeRollerPermit rollerPermitArrives
  split
  · rfl
  · split
    · rfl
    · exact ratioPart_permitLost _ k

/-! ## Line unit (chapter 6) -/

@[simp] theorem ratioPart_runPermitEvent (old new : LogInputs) :
    ratioPart (runPermitEvent old new s) = ratioPart s := by
  unfold runPermitEvent
  split <;> rfl

@[simp] theorem ratioPart_rollerPermitEvent (old new : LogInputs) (k : Roller) :
    ratioPart (rollerPermitEvent old new k s) = ratioPart s := by
  unfold rollerPermitEvent
  split <;> rfl

@[simp] theorem ratioPart_edgeEvent (old new : LogInputs) (i : LogIn) :
    ratioPart (edgeEvent old new i s) = ratioPart s := by
  cases i with
  | index k => dsimp only [edgeEvent]; split <;> rfl
  | extMark => dsimp only [edgeEvent]; split <;> rfl
  | _ => rfl

@[simp] theorem ratioPart_lineChangeReport (u : LineUnit) (routing : Bool) (i : LogIn) :
    ratioPart (lineChangeReport u routing i s) = ratioPart s := rfl

@[simp] theorem ratioPart_applyInputs (u : LineUnit) (xs : List LogIn) (routing : Bool) :
    ratioPart (applyInputs u xs routing s) = ratioPart s := by
  unfold applyInputs
  dsimp only
  rw [ratioPart_foldl _ fun v i => ratioPart_lineChangeReport v u routing i]
  split
  · simp [ratioPart_foldl]
  · simp [ratioPart_foldl]

@[simp] theorem ratioPart_groupSampled (g : Group) (levels : Eight Bool) :
    ratioPart (groupSampled g levels s) = ratioPart s := ratioPart_applyInputs _ _ _ _

@[simp] theorem ratioPart_routeChange (l : LineId) (f : Function) : ratioPart (routeChange l f s) = ratioPart s :=
  ratioPart_applyInputs _ _ _ _

@[simp] theorem ratioPart_takeLineChange (k : Roller) : ratioPart (takeLineChange k s) = ratioPart s := by
  unfold takeLineChange
  split <;> rfl

@[simp] theorem ratioPart_takeRunLamp : ratioPart (takeRunLamp s) = ratioPart s := by
  unfold takeRunLamp
  split <;> rfl

@[simp] theorem ratioPart_takeMarkOut : ratioPart (takeMarkOut s) = ratioPart s := by
  unfold takeMarkOut
  split <;> rfl

@[simp] theorem ratioPart_lineHandover (x : LineSettings) : ratioPart (lineHandover x s) = ratioPart s := by
  unfold lineHandover
  dsimp only
  rw [ratioPart_foldl]
  · rfl
  · intro u l
    split
    · rfl
    · simp

/-! ## Notice queue (chapter 9) -/

@[simp] theorem ratioPart_admitNotice (time : BitVec 32) (b : NoticeBody) :
    ratioPart (admitNotice time b s) = ratioPart s := by
  unfold admitNotice storeNotice
  dsimp only
  repeat' split
  all_goals rfl

@[simp] theorem ratioPart_takeReport (x : Sender) : ratioPart (takeReport x s) = ratioPart s := by
  unfold takeReport
  split
  · rfl
  · split
    · exact ratioPart_admitNotice _ _ _
    · rfl

@[simp] theorem ratioPart_takeNoticeChange (k : Roller) : ratioPart (takeNoticeChange k s) = ratioPart s := by
  unfold takeNoticeChange
  split
  · rfl
  · exact ratioPart_admitNotice _ _ _

@[simp] theorem ratioPart_takeRecord : ratioPart (takeRecord s) = ratioPart s := by
  unfold takeRecord recordArrives
  split
  · rfl
  · split
    · rfl
    · split
      · exact ratioPart_admitNotice _ _ _
      · rfl

/-! ## Profile queue (chapter 5) -/

@[simp] theorem ratioPart_publishRun : ratioPart (publishRun s) = ratioPart s := rfl

@[simp] theorem ratioPart_spaceTest (before : Nat) : ratioPart (spaceTest before s) = ratioPart s := by
  unfold spaceTest
  split <;> rfl

@[simp] theorem ratioPart_startTest (byLoad : Bool) (mark : Option (BitVec 32)) :
    ratioPart (startTest byLoad mark s) = ratioPart s := by
  obtain same | ⟨-, -, -, started⟩ := startTest_cases s byLoad mark
  · rw [same]
  · rw [started]; rfl

@[simp] theorem ratioPart_pulseStep : ratioPart (pulseStep s) = ratioPart s := by
  unfold pulseStep
  split
  · rfl
  · dsimp only
    split <;> rfl

@[simp] theorem ratioPart_raiseCue (number : Nat) : ratioPart (raiseCue number s) = ratioPart s := by
  unfold raiseCue
  dsimp only
  split <;> rfl

@[simp] theorem ratioPart_finishRun (v : Int) : ratioPart (finishRun v s) = ratioPart s := rfl

@[simp] theorem ratioPart_starveRun (v : Int) : ratioPart (starveRun v s) = ratioPart s := rfl

@[simp] theorem ratioPart_consumePoint (x : Point) (rest : List Point) :
    ratioPart (consumePoint x rest s) = ratioPart s := by
  unfold consumePoint
  dsimp only
  cases x.cue <;> dsimp only
  all_goals repeat' split
  all_goals simp

@[simp] theorem ratioPart_advanceRun : ratioPart (advanceRun s) = ratioPart s := by
  unfold advanceRun
  split
  · rfl
  · dsimp only
    split <;> simp

@[simp] theorem ratioPart_profileExpiry : ratioPart (profileExpiry s) = ratioPart s := by
  unfold profileExpiry
  dsimp only
  split <;> simp

@[simp] theorem ratioPart_takeProfileMark : ratioPart (takeProfileMark s) = ratioPart s := by
  unfold takeProfileMark profileTakesMark
  split
  · rfl
  · split
    · split
      · exact ratioPart_startTest _ _ _
      · rfl
    · rfl

@[simp] theorem ratioPart_takeProfileAbandonment : ratioPart (takeProfileAbandonment s) = ratioPart s := by
  unfold takeProfileAbandonment profileTakesAbandonment
  split
  · rfl
  · split <;> rfl

/-! ## Shaft model (chapter 1) -/

@[simp] theorem ratioPart_shaftSetMode (new : Mode) (cause : StopCause) :
    ratioPart (shaftSetMode new cause s) = ratioPart s := rfl

@[simp] theorem ratioPart_enterStopping (cause : StopCause) : ratioPart (enterStopping cause s) = ratioPart s := by
  rw [enterStopping, ratioPart_shaftSetMode]
  split <;> rfl

@[simp] theorem ratioPart_shaftStopEvent (cause : StopCause) : ratioPart (shaftStopEvent cause s) = ratioPart s := by
  unfold shaftStopEvent
  split
  · simp
  · split <;> rfl

@[simp] theorem ratioPart_shaftInterval : ratioPart (shaftInterval s) = ratioPart s := by
  unfold shaftInterval
  dsimp only
  split <;> rfl

@[simp] theorem ratioPart_takeShaftPermit : ratioPart (takeShaftPermit s) = ratioPart s := by
  unfold takeShaftPermit shaftTakesPermit
  dsimp only
  split
  · rfl
  · split
    · exact ratioPart_shaftStopEvent _ _
    · split
      · rfl
      · exact ratioPart_shaftStopEvent _ _

@[simp] theorem ratioPart_takeShaftChange (k : Roller) : ratioPart (takeShaftChange k s) = ratioPart s := by
  unfold takeShaftChange shaftTakesChange
  dsimp only
  split
  · rfl
  · split
    · exact ratioPart_shaftStopEvent _ _
    · rfl

@[simp] theorem ratioPart_takeShaftSkew : ratioPart (takeShaftSkew s) = ratioPart s := by
  unfold takeShaftSkew
  split
  · rfl
  · exact ratioPart_shaftStopEvent _ _

@[simp] theorem ratioPart_shaftToConstant (setpoint : Int) : ratioPart (shaftToConstant setpoint s) = ratioPart s := by
  unfold shaftToConstant
  split <;> rfl

@[simp] theorem ratioPart_takeShaftFinish : ratioPart (takeShaftFinish s) = ratioPart s := by
  unfold takeShaftFinish
  split
  · exact ratioPart_shaftToConstant _ _
  · rfl

@[simp] theorem ratioPart_takeShaftAbandonment : ratioPart (takeShaftAbandonment s) = ratioPart s := by
  unfold takeShaftAbandonment
  split
  · exact ratioPart_shaftToConstant _ _
  · rfl

@[simp] theorem ratioPart_takeShaftStarvation : ratioPart (takeShaftStarvation s) = ratioPart s := by
  unfold takeShaftStarvation shaftTakesStarvation
  split
  · split
    · exact ratioPart_enterStopping _ _
    · rfl
  · rfl

/-! ## Cell timer (chapter 7) -/

@[simp] theorem ratioPart_timerExpiry : ratioPart (timerExpiry s) = ratioPart s := by
  unfold timerExpiry
  dsimp only
  split <;> rfl

@[simp] theorem ratioPart_takeMarkEdge : ratioPart (takeMarkEdge s) = ratioPart s := by
  unfold takeMarkEdge markEdgeTaken
  split
  · rfl
  · split <;> rfl

/-! ## A store of the settings (chapter 10) -/

@[simp] theorem ratioPart_endStore (outcome : StoreOutcome) (ok : Bool) (stage : StoreStage) :
    ratioPart (endStore outcome ok stage s) = ratioPart s := rfl

@[simp] theorem ratioPart_failStore (remark : Bool) : ratioPart (failStore remark s) = ratioPart s := by
  rw [failStore, ratioPart_endStore]
  split <;> rfl

@[simp] theorem ratioPart_writesEnd (next : StoreStage) (accepted : Bool) (landed : Nat) (remark : Bool) :
    ratioPart (writesEnd next accepted landed remark s) = ratioPart s := by
  unfold writesEnd
  split <;> simp

@[simp] theorem ratioPart_writeDone (accepted : Bool) (landed : Nat) (remark : Bool) :
    ratioPart (writeDone accepted landed remark s) = ratioPart s := by
  unfold writeDone
  split <;> simp

@[simp] theorem ratioPart_sealDone (accepted : Bool) (landed : Nat) (remark : Bool) :
    ratioPart (sealDone accepted landed remark s) = ratioPart s := by
  unfold sealDone
  split <;> simp

@[simp] theorem ratioPart_checkDone (read : MemRead) (remark : Bool) :
    ratioPart (checkDone read remark s) = ratioPart s := by
  unfold checkDone
  repeat' split
  all_goals simp

@[simp] theorem ratioPart_storeTimesOut (landed : Nat) (remark : Bool) :
    ratioPart (storeTimesOut landed remark s) = ratioPart s := by
  unfold storeTimesOut
  split <;> simp

end Sys2Proof.Machine
end

