-- ==== Sys2Proof/Proofs/RatioCommandFrames.lean ====
section
/-! PROOFS. Every command but SET RATIO and SELECT RATIO leaves the ratio table alone. -/

namespace Sys2Proof.Machine

/-- The state a command leaves: the one it is taken with, or the one it found when it is refused (R157). -/
def Taking.stateAfter (s : State) : Taking → State
  | .taken t _ _ _ => t
  | .refused _ => s

variable (s : State)

/-! ## Shaft model (chapter 1) -/

theorem ratioPart_switchRunningMode (new : Mode) :
    ratioPart ((switchRunningMode new s).stateAfter s) = ratioPart s := by
  unfold switchRunningMode
  split <;> rfl

theorem ratioPart_takeSelectMode (mode : Nat) : ratioPart ((takeSelectMode mode s).stateAfter s) = ratioPart s := by
  unfold takeSelectMode
  split
  · rfl
  · rfl
  · cases s.shaft.mode with
    | stopping => rfl
    | idle =>
      dsimp only
      repeat' split
      all_goals rfl
    | roadLoad | speedProfile | constantSpeed =>
      dsimp only
      split
      · rfl
      · split
        · exact ratioPart_enterStopping s _
        · exact ratioPart_switchRunningMode s _

theorem ratioPart_takeSetRoadLoad (r : RoadLoad) : ratioPart ((takeSetRoadLoad r s).stateAfter s) = ratioPart s := by
  unfold takeSetRoadLoad
  split <;> rfl

theorem ratioPart_takeSetLimits (l : Limits) : ratioPart ((takeSetLimits l s).stateAfter s) = ratioPart s := by
  unfold takeSetLimits
  repeat' split
  all_goals rfl

theorem ratioPart_takeStop : ratioPart ((takeStop s).stateAfter s) = ratioPart s := by
  unfold takeStop
  split
  · exact ratioPart_enterStopping s _
  · rfl

/-! ## Roller channels (chapter 2) and target formation (chapter 3) -/

theorem ratioPart_takeSetRoller (roller form : Nat) (body : RollerBody) :
    ratioPart ((takeSetRoller roller form body s).stateAfter s) = ratioPart s := by
  unfold takeSetRoller
  split
  · unfold setGains
    split <;> rfl
  · unfold setFull
    split
    · rfl
    · repeat' split
      all_goals rfl
  · rfl

theorem ratioPart_takeReadRoller (roller : Nat) : ratioPart ((takeReadRoller roller s).stateAfter s) = ratioPart s := by
  unfold takeReadRoller
  split <;> rfl

theorem ratioPart_takeZeroForce (roller : Nat) : ratioPart ((takeZeroForce roller s).stateAfter s) = ratioPart s := by
  unfold takeZeroForce
  split
  · rfl
  · repeat' split
    all_goals rfl

theorem ratioPart_takeNudge (roller : Nat) (d : Int) :
    ratioPart ((takeNudge roller d s).stateAfter s) = ratioPart s := by
  unfold takeNudge
  split
  · rfl
  · repeat' split
    all_goals rfl

/-! ## Coupling controller (chapter 4) -/

theorem ratioPart_takeAttach (roller : Nat) : ratioPart ((takeAttach roller s).stateAfter s) = ratioPart s := by
  unfold takeAttach
  split
  · rfl
  · next k _ =>
    cases (s.coupling.roller.get k).state with
    | detached =>
      dsimp only
      repeat' split
      all_goals rfl
    | _ => rfl

theorem ratioPart_takeRelease (roller : Nat) : ratioPart ((takeRelease roller s).stateAfter s) = ratioPart s := by
  unfold takeRelease
  split
  · rfl
  · exact ratioPart_foldl s (fun u k => ratioPart_releaseRoller u k) _

theorem ratioPart_takeIsolate (roller : Nat) : ratioPart ((takeIsolate roller s).stateAfter s) = ratioPart s := by
  unfold takeIsolate
  split
  · rfl
  · exact ratioPart_foldl s (fun u k => ratioPart_isolateRoller u k) _

theorem ratioPart_takeAcknowledge (roller : Nat) :
    ratioPart ((takeAcknowledge roller s).stateAfter s) = ratioPart s := by
  unfold takeAcknowledge
  split
  · rfl
  · split <;> rfl

theorem ratioPart_takeSetCoupling (p : Option CouplingParams) :
    ratioPart ((takeSetCoupling p s).stateAfter s) = ratioPart s := by
  cases p with
  | none => rfl
  | some p => dsimp only [takeSetCoupling]; split <;> rfl

/-! ## Profile queue (chapter 5) -/

theorem ratioPart_takeLoadPoints (count : Nat) (bytes : List Byte) :
    ratioPart ((takeLoadPoints count bytes s).stateAfter s) = ratioPart s := by
  unfold takeLoadPoints
  split
  · rfl
  · split
    · rfl
    · dsimp only
      repeat' split
      all_goals simp [Taking.stateAfter, doneWith]

theorem ratioPart_takeStartProfile (condition : Nat) :
    ratioPart ((takeStartProfile condition s).stateAfter s) = ratioPart s := by
  unfold takeStartProfile
  split
  · rfl
  · split
    · simp [Taking.stateAfter, done]
    · rfl

theorem ratioPart_takeAbandonProfile : ratioPart ((takeAbandonProfile s).stateAfter s) = ratioPart s := by
  unfold takeAbandonProfile
  split <;> rfl

theorem ratioPart_takeClearProfile : ratioPart ((takeClearProfile s).stateAfter s) = ratioPart s := by
  unfold takeClearProfile
  split
  · rfl
  · simp [Taking.stateAfter, done]

theorem ratioPart_takeSetProfile (threshold : Nat) :
    ratioPart ((takeSetProfile threshold s).stateAfter s) = ratioPart s := by
  unfold takeSetProfile
  repeat' split
  all_goals rfl

/-! ## Line unit (chapter 6) -/

theorem ratioPart_takeRouteLine (line code : Nat) :
    ratioPart ((takeRouteLine line code s).stateAfter s) = ratioPart s := by
  unfold takeRouteLine
  split
  · dsimp only
    split
    · rfl
    · split
      · rfl
      · exact ratioPart_routeChange s _ _
  · rfl

theorem ratioPart_takeSetQualifier (group period : Nat) (counts : Eight Nat) :
    ratioPart ((takeSetQualifier group period counts s).stateAfter s) = ratioPart s := by
  unfold takeSetQualifier
  split
  · rfl
  · repeat' split
    all_goals rfl

/-! ## Cell timer (chapter 7), message link (chapter 8) and notice queue (chapter 9) -/

theorem ratioPart_takeSetTime (time : Nat) : ratioPart ((takeSetTime time s).stateAfter s) = ratioPart s := by
  unfold takeSetTime
  split <;> rfl

theorem ratioPart_takeSetCompare (value source : Nat) :
    ratioPart ((takeSetCompare value source s).stateAfter s) = ratioPart s := by
  unfold takeSetCompare
  split
  · rfl
  · split <;> rfl

theorem ratioPart_takeSetLink (l : LinkSettings) : ratioPart ((takeSetLink l s).stateAfter s) = ratioPart s := by
  unfold takeSetLink
  repeat' split
  all_goals rfl

theorem ratioPart_takeSetNotices (enable : BitVec 16) (period : Nat) (selection : BitVec 24) :
    ratioPart ((takeSetNotices enable period selection s).stateAfter s) = ratioPart s := by
  unfold takeSetNotices
  split <;> rfl

/-! ## Settings store (chapter 10) -/

theorem ratioPart_takeStoreSettings (accepts : Bool) :
    ratioPart ((takeStoreSettings accepts s).stateAfter s) = ratioPart s := by
  unfold takeStoreSettings
  repeat' split
  all_goals rfl

theorem ratioPart_takeReloadSettings : ratioPart ((takeReloadSettings s).stateAfter s) = ratioPart s := by
  unfold takeReloadSettings
  repeat' split
  all_goals rfl

theorem ratioPart_takeReset : ratioPart ((takeReset s).stateAfter s) = ratioPart s := by
  unfold takeReset
  split <;> rfl

theorem ratioPart_takeReadCounters (option : Nat) :
    ratioPart ((takeReadCounters option s).stateAfter s) = ratioPart s := by
  unfold takeReadCounters
  split <;> rfl

/-! ## All of them -/

/-- SET RATIO and SELECT RATIO write the ratio table (R60, R61). -/
def Cmd.writesRatios : Cmd → Bool
  | .setRatio .. | .selectRatio .. => true
  | _ => false

theorem ratioPart_runCmd (accepts : Bool) (c : Cmd) (hc : Cmd.writesRatios c = false) :
    ratioPart ((runCmd accepts s c).stateAfter s) = ratioPart s := by
  cases c with
  | selectMode m => exact ratioPart_takeSelectMode s m
  | setRoadLoad r => exact ratioPart_takeSetRoadLoad s r
  | setLimits l => exact ratioPart_takeSetLimits s l
  | stop => exact ratioPart_takeStop s
  | setRoller k form body => exact ratioPart_takeSetRoller s k form body
  | readRoller k => exact ratioPart_takeReadRoller s k
  | zeroForce k => exact ratioPart_takeZeroForce s k
  | setRatio | selectRatio => cases hc
  | nudge k d => exact ratioPart_takeNudge s k d
  | attach k => exact ratioPart_takeAttach s k
  | release k => exact ratioPart_takeRelease s k
  | isolate k => exact ratioPart_takeIsolate s k
  | acknowledgeRelease k => exact ratioPart_takeAcknowledge s k
  | setCoupling p => exact ratioPart_takeSetCoupling s p
  | loadPoints n ps => exact ratioPart_takeLoadPoints s n ps
  | startProfile x => exact ratioPart_takeStartProfile s x
  | abandonProfile => exact ratioPart_takeAbandonProfile s
  | clearProfile => exact ratioPart_takeClearProfile s
  | setProfile n => exact ratioPart_takeSetProfile s n
  | routeLine l x => exact ratioPart_takeRouteLine s l x
  | setQualifier g p cs => exact ratioPart_takeSetQualifier s g p cs
  | setTime t => exact ratioPart_takeSetTime s t
  | setCompare v src => exact ratioPart_takeSetCompare s v src
  | setNotices e n sel => exact ratioPart_takeSetNotices s e n sel
  | storeSettings => exact ratioPart_takeStoreSettings s accepts
  | reloadSettings => exact ratioPart_takeReloadSettings s
  | reset => exact ratioPart_takeReset s
  | readCounters o => exact ratioPart_takeReadCounters s o
  | setLink l => exact ratioPart_takeSetLink s l
  | setSpeed | readReference | readProfile | driveLines | readLines | readTime | fetchNotices | readIdentity
  | readStatus => rfl

end Sys2Proof.Machine
end

