-- ==== Sys2Proof/Proofs/RatioLaws.lean ====
section
/-! PROOFS. The law of R59 that goals and current values stay within −50 000 … 50 000, row by row: the rows that write
the ratio table keep it in range, and every other row leaves it alone. -/

namespace Sys2Proof

theorem Seven.all_toList {α : Type} (p : α → Bool) (v : Seven α) :
    v.toList.all p = true ↔ ∀ e, p (v.get e) = true := by
  constructor
  · intro h e
    simp only [Seven.toList, List.all_cons, List.all_nil, Bool.and_true, Bool.and_eq_true] at h
    cases e <;> simp only [Seven.get, h]
  · intro h
    simp only [Seven.toList, List.all_cons, List.all_nil, Bool.and_true, Bool.and_eq_true]
    exact ⟨h .e1, h .e2, h .e3, h .e4, h .e5, h .e6, h .e7⟩

namespace Machine

theorem goalOk_iff (g : Int) : goalOk g = true ↔ -50000 ≤ g ∧ g ≤ 50000 := inRange_iff _ _ _

theorem ratiosLawful_iff (s : State) :
    ratiosLawful s = true ↔
      (∀ e, goalOk (s.target.settings.goals.get e) = true) ∧ (∀ e, goalOk (s.target.current.get e) = true) ∧
        optionOk ratioSectionOk s.mail.handover.target = true := by
  simp only [ratiosLawful, Bool.and_eq_true, Seven.all_toList, and_assoc]

theorem goals_of_ratioSectionOk {x : RatioSettings} (h : ratioSectionOk x = true) (e : Entry) :
    goalOk (x.goals.get e) = true := by
  rw [ratioSectionOk, Bool.and_eq_true, Seven.all_toList] at h
  exact h.1 e

/-! ## Target formation: the commands, the interval, its section of an autoload -/

theorem goalOk_clampAbs (g : Int) : goalOk (clampAbs 50000 g) = true :=
  (goalOk_iff _).mpr (clampTo_mem _ _ g (by decide))

/-- A current value on its way to a goal in range stays in range. -/
theorem goalOk_slew {goal now : Int} (hgoal : goalOk goal = true) (hnow : goalOk now = true) :
    goalOk (slew goal now) = true := by
  rw [goalOk_iff] at *
  unfold slew mag
  omega

theorem ratiosLawful_takeSetRatio {s : State} (hs : ratiosLawful s = true) (n : Nat) (goal : Int) :
    ratiosLawful ((takeSetRatio n goal s).stateAfter s) = true := by
  unfold takeSetRatio
  split
  · exact hs
  · next i _ =>
    obtain ⟨goals, current, handover⟩ := (ratiosLawful_iff s).mp hs
    refine (ratiosLawful_iff _).mpr ⟨fun e => ?_, current, handover⟩
    simp only [Taking.stateAfter, doneWith, Seven.get_set]
    split
    · exact goalOk_clampAbs goal
    · exact goals e

theorem ratiosLawful_takeSelectRatio {s : State} (hs : ratiosLawful s = true) (n m : Nat) :
    ratiosLawful ((takeSelectRatio n m s).stateAfter s) = true := by
  unfold takeSelectRatio
  split
  · exact hs
  · repeat' split
    all_goals exact hs

theorem ratiosLawful_targetExpiry {s : State} (hs : ratiosLawful s = true) :
    ratiosLawful (targetExpiry s) = true := by
  obtain ⟨goals, current, handover⟩ := (ratiosLawful_iff s).mp hs
  refine (ratiosLawful_iff _).mpr ⟨goals, fun e => ?_, handover⟩
  rw [targetExpiry_current]
  exact goalOk_slew (goals e) (current e)

theorem ratiosLawful_takeHandover {s : State} (hs : ratiosLawful s = true) (block : HandoverTo) :
    ratiosLawful (takeHandover block s) = true := by
  cases block with
  | target =>
    unfold takeHandover
    dsimp only
    split
    · exact hs
    · next x waiting =>
      obtain ⟨-, current, handover⟩ := (ratiosLawful_iff s).mp hs
      rw [waiting] at handover
      exact (ratiosLawful_iff _).mpr ⟨goals_of_ratioSectionOk handover, current, rfl⟩
  | line =>
    refine (ratiosLawful_congr (s := s) ?_).trans hs
    unfold takeHandover
    dsimp only
    split
    · rfl
    · exact ratioPart_lineHandover _ _
  | shaft | channel | coupling | profile | notice =>
    refine (ratiosLawful_congr (s := s) ?_).trans hs
    unfold takeHandover
    dsimp only
    split <;> rfl

/-! ## Resets and the autoload (R71, R176, R180 to R182) -/

/-- A software reset puts the current values at the goals. -/
theorem ratiosLawful_softwareReset {s : State} (hs : ratiosLawful s = true) :
    ratiosLawful (softwareReset s) = true := by
  obtain ⟨goals, -, handover⟩ := (ratiosLawful_iff s).mp hs
  exact (ratiosLawful_iff _).mpr ⟨goals, goals, handover⟩

theorem ratiosLawful_powerOnReset (landed : Nat) (s : State) : ratiosLawful (powerOnReset landed s) = true :=
  (ratiosLawful_congr (s := State.reset) rfl).trans (by decide)

theorem ratiosLawful_actNow {s : State} (hs : ratiosLawful s = true) (act : Option Deferred) :
    ratiosLawful (actNow act s) = true := by
  rcases act with _ | _ | _ | _
  · exact hs
  · exact hs
  · exact ratiosLawful_softwareReset hs
  · exact ratiosLawful_softwareReset hs

/-- An image is valid only with its ratio section in range (R175). -/
theorem ratioSectionOk_of_sections {p : List Byte} {x : Settings} (h : settingsOfSections p = some x) :
    ratioSectionOk x.ratio = true := by
  simp only [settingsOfSections, Option.bind_eq_bind, Option.bind_eq_some_iff, Option.ite_none_right_eq_some,
    Option.some.injEq] at h
  obtain ⟨_, -, _, -, _, -, _, -, _, -, ⟨-, -, -, -, -, -, goals, selects, -⟩, rfl⟩ := h
  exact Bool.and_eq_true_iff.mpr ⟨goals, selects⟩

theorem ratioSectionOk_of_image {image : List Byte} {x : Settings} (h : settingsOfImage image = some x) :
    ratioSectionOk x.ratio = true := by
  simp only [settingsOfImage, Option.ite_none_right_eq_some] at h
  exact ratioSectionOk_of_sections h.2

theorem ratiosLawful_endAutoload {s : State} (hs : ratiosLawful s = true) {image : Option Settings}
    (himage : ∀ x, image = some x → ratioSectionOk x.ratio = true) : ratiosLawful (endAutoload image s) = true := by
  obtain ⟨goals, current, -⟩ := (ratiosLawful_iff s).mp hs
  have loaded : ratioSectionOk (image.getD .default).ratio = true := by
    cases image with
    | none => decide
    | some x => exact himage x rfl
  unfold endAutoload
  dsimp only
  split <;> exact (ratiosLawful_iff _).mpr ⟨goals, current, loaded⟩

theorem ratiosLawful_autoloadEnds {s : State} (hs : ratiosLawful s = true) (read : MemRead) :
    ratiosLawful (autoloadEnds read s) = true := by
  unfold autoloadEnds
  split
  · refine ratiosLawful_endAutoload hs fun x hx => ?_
    obtain ⟨image, -, valid⟩ := Option.bind_eq_some_iff.mp hx
    exact ratioSectionOk_of_image valid
  · exact hs

theorem ratiosLawful_autoloadTimesOut {s : State} (hs : ratiosLawful s = true) :
    ratiosLawful (autoloadTimesOut s) = true := by
  unfold autoloadTimesOut
  split
  · exact ratiosLawful_endAutoload hs fun _ hx => nomatch hx
  · exact hs

/-! ## Commands (R157) -/

theorem linkBlind_ratiosLawful : LinkBlind fun s => ratiosLawful s = true := fun _ _ _ hs => hs

theorem ratiosLawful_runCmd {s : State} (hs : ratiosLawful s = true) (accepts : Bool) (c : Cmd) :
    ratiosLawful ((runCmd accepts s c).stateAfter s) = true := by
  cases hc : Cmd.writesRatios c with
  | false => exact (ratiosLawful_congr (ratioPart_runCmd s accepts c hc)).trans hs
  | true =>
    cases c with
    | setRatio n goal => exact ratiosLawful_takeSetRatio hs n goal
    | selectRatio n m => exact ratiosLawful_takeSelectRatio hs n m
    | _ => cases hc

theorem cmdKeeps_ratiosLawful (accepts : Bool) (cmd : Except RefusalCode Cmd) :
    CmdKeeps (fun s => ratiosLawful s = true) accepts cmd := by
  intro s t cls fields act hs run
  have ht : ratiosLawful t = true := by
    obtain _ | c := cmd
    · cases run
    · have kept := ratiosLawful_runCmd hs accepts c
      unfold runFrame runChecked at run
      dsimp only at run
      split at run
      · rwa [run] at kept
      · cases run
  exact ⟨ht, ratiosLawful_actNow ht act⟩

theorem ratiosLawful_deliver {s : State} (hs : ratiosLawful s = true) (h : Head) (c : Cmd) (accepts : Bool) :
    ratiosLawful (deliver h c accepts s) = true :=
  deliver_keeps linkBlind_ratiosLawful (cmdKeeps_ratiosLawful accepts (.ok c)) h hs

/-! ## Every row -/

theorem ratioPart_ite (c : Prop) [Decidable c] {s t : State} (h : ratioPart t = ratioPart s) :
    ratioPart (if c then t else s) = ratioPart s := by
  split
  · exact h
  · rfl

/-- Every command and event keeps the ratios in range. -/
theorem ratiosLawful_exec {s t : State} (i : Instr) (hs : ratiosLawful s = true) (ran : exec i s = .next t) :
    ratiosLawful t = true := by
  have next {u : State} (hu : ratiosLawful u = true)
      (ran : (Host.Outcome.next u : Host.Outcome State Fault Refusal) = .next t) : ratiosLawful t = true :=
    Host.Outcome.next.inj ran ▸ hu
  have same {u : State} (hu : ratioPart u = ratioPart s) :
      (Host.Outcome.next u : Host.Outcome State Fault Refusal) = .next t → ratiosLawful t = true :=
    next ((ratiosLawful_congr hu).trans hs)
  cases i with
  | selectMode | setRoadLoad | setLimits | setSpeed | stop | readReference | setRoller | readRoller | zeroForce
  | setRatio | selectRatio | nudge | attach | release | isolate | acknowledgeRelease | setCoupling | loadPoints
  | startProfile | abandonProfile | clearProfile | setProfile | readProfile | routeLine | setQualifier | driveLines
  | readLines | setTime | setCompare | readTime | fetchNotices | setNotices | storeSettings | reloadSettings | reset
  | readCounters | readIdentity | readStatus | setLink => exact next (ratiosLawful_deliver hs _ _ _) ran
  | receiveByte b gapUs stopOk accepts =>
    exact next (byteReceived_keeps linkBlind_ratiosLawful (cmdKeeps_ratiosLawful accepts) b gapUs stopOk hs) ran
  | gapTimeout => exact next (gapPasses_keeps linkBlind_ratiosLawful hs) ran
  | idleTimeout => exact next (linkBlind_ratiosLawful.idlePasses hs) ran
  | replyStart => exact next (replyStarts_keeps linkBlind_ratiosLawful hs) ran
  | replyComplete =>
    exact next (replyEnds_keeps linkBlind_ratiosLawful (fun act _ hu => ratiosLawful_actNow hu act) hs) ran
  | shaftInterval => exact same (ratioPart_shaftInterval s) ran
  | channelInterval k => exact same (ratioPart_channelExpiry s k) ran
  | forceFault k | zeroingDone k | releaseRampEnd k => exact same (ratioPart_ite _ (ratioPart_channelExpiry s k)) ran
  | encoderTransition k p1 p2 => exact same (ratioPart_encoderSample s k p1 p2) ran
  | forceReading k bytes => exact same (ratioPart_onChannel s k _) ran
  | indexEdge k => exact same (ratioPart_takeIndexEdge s k) ran
  | channelCouplingChange k => exact same (ratioPart_takeChannelChange s k) ran
  | targetInterval => exact next (ratiosLawful_targetExpiry hs) ran
  | targetCouplingChange k => exact same (ratioPart_takeTargetChange s k) ran
  | couplingInterval => exact same (ratioPart_couplingExpiry s) ran
  | attachTimeout | lockTimeout | notSettled | skewFault =>
    exact same (ratioPart_ite _ (ratioPart_couplingExpiry s)) ran
  | measurementArrival k => exact same (ratioPart_takeMeasurement s k) ran
  | matched k | lockLoss k | relocked k | settled k =>
    exact same (ratioPart_ite _ (ratioPart_takeMeasurement s k)) ran
  | rampEnd k => exact same (ratioPart_takeRampEnd s k) ran
  | faultHandoff k => exact same (ratioPart_takeFault s k) ran
  | couplingRunPermitChange => exact same (ratioPart_takeCouplingPermit s) ran
  | rollerPermitChange k => exact same (ratioPart_takeRollerPermit s k) ran
  | shaftRunPermitChange => exact same (ratioPart_takeShaftPermit s) ran
  | shaftCouplingChange k => exact same (ratioPart_takeShaftChange s k) ran
  | shaftSkewFault => exact same (ratioPart_takeShaftSkew s) ran
  | shaftProfileFinish => exact same (ratioPart_takeShaftFinish s) ran
  | shaftProfileStarved => exact same (ratioPart_takeShaftStarvation s) ran
  | shaftProfileAbandon => exact same (ratioPart_takeShaftAbandonment s) ran
  | profileInterval => exact same (ratioPart_profileExpiry s) ran
  | pointReached | markOutPulseEnd => exact same (ratioPart_ite _ (ratioPart_profileExpiry s)) ran
  | profileTimeMark => exact same (ratioPart_takeProfileMark s) ran
  | profileAbandonment => exact same (ratioPart_takeProfileAbandonment s) ran
  | groupSample g levels => exact same (ratioPart_groupSampled s g levels) ran
  | lineQualified l levels => exact same (ratioPart_ite _ (ratioPart_groupSampled s l.group levels)) ran
  | lineCouplingChange k => exact same (ratioPart_takeLineChange s k) ran
  | runLampRecord => exact same (ratioPart_takeRunLamp s) ran
  | markOutReport => exact same (ratioPart_takeMarkOut s) ran
  | cellTimerInterval => exact same (ratioPart_timerExpiry s) ran
  | markEdge => exact same (ratioPart_takeMarkEdge s) ran
  | noticeReport sender => exact same (ratioPart_takeReport s sender) ran
  | referenceRecordTaken => exact same (ratioPart_takeRecord s) ran
  | shaftSample => exact same (ratioPart_ite _ (ratioPart_takeRecord s)) ran
  | noticeCouplingChange k => exact same (ratioPart_takeNoticeChange s k) ran
  | storeWriteDone accepted landed remark => exact same (ratioPart_writeDone s accepted landed remark) ran
  | storeSealDone accepted landed remark => exact same (ratioPart_sealDone s accepted landed remark) ran
  | storeCheckDone read remark => exact same (ratioPart_checkDone s read remark) ran
  | storeTimeout landed remark => exact same (ratioPart_storeTimesOut s landed remark) ran
  | powerOnReset landed => exact next (ratiosLawful_powerOnReset landed s) ran
  | autoloadEnd read => exact next (ratiosLawful_autoloadEnds hs read) ran
  | autoloadTimeout => exact next (ratiosLawful_autoloadTimesOut hs) ran
  | settingsHandover block => exact next (ratiosLawful_takeHandover hs block) ran

end Machine

end Sys2Proof
end

