-- ==== Sys2Proof/Proofs/SlewReachesGoal.lean ====
section
/-! PROOFS. The slew over many intervals (R59): the goal is reached in steps of 10 ppm, and a new goal leaves the
current value as it stands. -/

namespace Sys2Proof.Machine

/-! ## Many intervals -/

/-- Where a current value stands `n` slews later. -/
def slewed (n : Nat) (goal now : Int) : Int :=
  if mag (goal - now) ≤ 10 * n then goal else if now < goal then now + 10 * n else now - 10 * n

theorem slewed_zero (goal now : Int) : slewed 0 goal now = now := by
  unfold slewed mag
  omega

/-- One slew and then `n` more are `n + 1` slews. -/
theorem slewed_slew (n : Nat) (goal now : Int) : slewed n goal (slew goal now) = slewed (n + 1) goal now := by
  unfold slewed slew mag
  push_cast
  omega

theorem repeated_targetInterval_current (e : Entry) (n : Nat) (s : State) :
    (repeated .targetInterval n s).target.current.get e =
      slewed n (s.target.settings.goals.get e) (s.target.current.get e) := by
  induction n generalizing s with
  | zero => exact (slewed_zero _ _).symm
  | succ n ih =>
    calc (repeated .targetInterval (n + 1) s).target.current.get e
      _ = (repeated .targetInterval n (targetExpiry s)).target.current.get e := rfl
      _ = slewed n (s.target.settings.goals.get e) (slew (s.target.settings.goals.get e) (s.target.current.get e)) := by
        rw [ih, targetExpiry_settings, targetExpiry_current]
      _ = _ := slewed_slew _ _ _

/-! ## A new goal (R60) -/

theorem takeSetRatio_taken {n : Nat} {goal : Int} {s t : State} {cls : Nat} {fields : List Byte}
    {act : Option Deferred} (taken : takeSetRatio n goal s = .taken t cls fields act) :
    t.target.current = s.target.current ∧ act = none := by
  unfold takeSetRatio at taken
  split at taken <;> cases taken
  exact ⟨rfl, rfl⟩

theorem deliver_setRatio_current (h : Head) (n : Nat) (goal : Int) (s : State) :
    (deliver h (.setRatio n goal) false s).target.current = s.target.current := by
  refine deliver_keeps (P := fun u => u.target.current = s.target.current) (fun _ _ _ hu => hu) ?_ h rfl
  intro u t cls fields act hu run
  obtain ⟨current, rfl⟩ := takeSetRatio_taken run
  exact ⟨current.trans hu, current.trans hu⟩

end Sys2Proof.Machine

open Sys2Proof Sys2Proof.Machine

/-- Settles O33, by the closed form `slewed` of the slew over `n` intervals and by `ratiosLawful_exec`. -/
theorem slewReachesItsGoal : Obligations.SlewReachesItsGoal := by
  intro e s goal now
  refine ⟨⟨targetExpiry s, exec_targetInterval s, targetExpiry_current s e, fun k selected => ?_⟩,
    fun n => ⟨fun near => ?_, fun far => ?_⟩, fun h n g t ran => ?_, fun i t lawful ran => ?_⟩
  · rw [targetExpiry_roller s k]
    obtain ⟨-, -, -, -, ratio, -⟩ := targetOf_speed s.shaft.record (targetExpiry s).target.current
      (s.target.settings.selects.get k) (s.channel.get k).meas (t := s.target.roller.get k)
    exact ratio.trans (ratioInUse_of_entry _ selected)
  · rw [repeated_targetInterval_current]
    exact if_pos near
  · rw [repeated_targetInterval_current]
    exact if_neg (Int.not_le.mpr far)
  · rw [exec_setRatio] at ran
    exact Host.Outcome.next.inj ran ▸ deliver_setRatio_current h n g s
  · exact ratiosLawful_exec i lawful ran
end

