-- ==== Sys2Proof/Proofs/CellTimer.lean ====
section
/-! PROOFS. The cell timer (R143 to R148): what each of its rows does, case by case. -/

namespace Sys2Proof.Machine

/-! ## The rows -/

theorem exec_setTime (h : Head) (n : Nat) (s : State) :
    exec (.setTime h n) s = .next (deliver h (.setTime n) false s) := rfl

theorem exec_setCompare (h : Head) (n source : Nat) (s : State) :
    exec (.setCompare h n source) s = .next (deliver h (.setCompare n source) false s) := rfl

theorem exec_cellTimerInterval (s : State) : exec .cellTimerInterval s = .next (timerExpiry s) := rfl

theorem exec_markEdge (s : State) : exec .markEdge s = .next (takeMarkEdge s) := rfl

/-! ## Cell times and source codes -/

/-- The range of a cell time, as the model tests it, is that of 32 bits. -/
theorem inRange_cellTime_iff (n : Nat) : inRange 0 4294967295 n = true ↔ n < 4294967296 := by
  rw [inRange_iff]
  omega

theorem sourceOfCode_eq_none {n : Nat} (h : 1 < n) : sourceOfCode n = none := by
  match n, h with
  | _ + 2, _ => rfl

theorem sourceOfCode_of_le {n : Nat} (h : n ≤ 1) :
    sourceOfCode n = some (if n = 0 then .compare else .extMark) := by
  match n, h with
  | 0, _ => rfl
  | 1, _ => rfl

theorem sourceCode_of_le {n : Nat} (h : n ≤ 1) : sourceCode (if n = 0 then .compare else .extMark) = n := by
  match n, h with
  | 0, _ => rfl
  | 1, _ => rfl

/-! ## SET TIME (R144) -/

theorem takeSetTime_range {n : Nat} (hn : ¬n < 4294967296) (s : State) : takeSetTime n s = .refused .range :=
  if_neg (mt (inRange_cellTime_iff n).mp hn)

theorem takeSetTime_taken {n : Nat} (hn : n < 4294967296) (s : State) :
    takeSetTime n s =
      .taken { s with timer := { s.timer with time := BitVec.ofNat 32 n } } 0
        (be 4 s.timer.time.toNat ++ be 4 n) none :=
  if_pos ((inRange_cellTime_iff n).mpr hn)

/-! ## SET COMPARE (R145) -/

theorem takeSetCompare_range {n source : Nat} (h : 1 < source ∨ 4294967296 ≤ n) (s : State) :
    takeSetCompare n source s = .refused .range := by
  unfold takeSetCompare
  split
  · rfl
  · next src hsrc =>
    have hn : ¬n < 4294967296 := fun hn => by
      rw [sourceOfCode_eq_none (by omega)] at hsrc
      cases hsrc
    exact if_neg (mt (inRange_cellTime_iff n).mp hn)

theorem takeSetCompare_taken {n source : Nat} (hsource : source ≤ 1) (hn : n < 4294967296) (s : State) :
    takeSetCompare n source s =
      .taken
        { s with
          timer :=
            { s.timer with
              compare := BitVec.ofNat 32 n, source := if source = 0 then .compare else .extMark } }
        (if source = 0 ∧ n ≠ 0 ∧ n = s.timer.time.toNat then 1 else 0)
        (be 4 s.timer.time.toNat ++ be 4 n ++ [byte source]) none := by
  simp only [takeSetCompare, sourceOfCode_of_le hsource, if_pos ((inRange_cellTime_iff n).mpr hn), doneWith,
    sourceCode_of_le hsource, ite_eq_left_iff, reduceCtorEq, imp_false, Classical.not_not]

/-! ## The interval (R143, R146) and the mark edge (R147) -/

/-- The compare test is made on the new cell time, and 0 is never met (R146). -/
theorem compareMet_iff (t : Timer) :
    compareMet t = true ↔ t.source = .compare ∧ t.compare ≠ 0#32 ∧ t.compare = t.time := by
  simp [compareMet, and_assoc, eq_comm (a := t.time)]

theorem timerExpiry_eq (s : State) :
    timerExpiry s =
      let s' : State := { s with timer := { s.timer with time := s.timer.time + 1 } }
      if s.timer.source = .compare ∧ s.timer.compare ≠ 0#32 ∧ s.timer.compare = s.timer.time + 1 then timeMark s'
      else s' := by
  simp only [timerExpiry, compareMet_iff]

theorem takeMarkEdge_succ {s : State} {n : Nat} (waits : s.mail.markEdge = n + 1) :
    takeMarkEdge s = markEdgeTaken { s with mail := { s.mail with markEdge := n } } := by
  simp only [takeMarkEdge, waits, onMail]

end Sys2Proof.Machine

open Sys2Proof Sys2Proof.Machine

/-- Settles O51: the two commands by `deliver_taken` and `deliver_refused` with their equations above, the interval and
the mark edge by the condition under which each raises a time mark. -/
theorem cellTimerKeepsTime : Obligations.CellTimerKeepsTime := by
  intro h s
  refine ⟨fun hh => ⟨fun n => ?_, fun n source => ?_⟩, ?_, fun n waits => ?_⟩
  · rw [exec_setTime]
    split
    · next hn => exact congrArg _ (deliver_taken (c := .setTime n) hh rfl (takeSetTime_taken hn _) rfl)
    · next hn => exact congrArg _ (deliver_refused (c := .setTime n) hh rfl (takeSetTime_range hn _))
  · rw [exec_setCompare]
    split
    · next hbad => exact congrArg _ (deliver_refused (c := .setCompare n source) hh rfl (takeSetCompare_range hbad _))
    · next hok =>
      obtain ⟨hsource, hn⟩ := not_or.mp hok
      exact congrArg _ (deliver_taken (c := .setCompare n source) hh rfl
        (takeSetCompare_taken (Nat.not_lt.mp hsource) (Nat.not_le.mp hn) _) rfl)
  · rw [exec_cellTimerInterval, timerExpiry_eq]
    rfl
  · rw [exec_markEdge, takeMarkEdge_succ waits]
    rfl
end
